-- ==== Sys2Proof/Word.lean ====
section
/-! DEFINITION. The word types of the block: bytes, operation words and the three address widths. -/

namespace Sys2Proof

/-- One byte: every storage element and every transfer of the block is one byte wide (R75). -/
abbrev Byte := BitVec 8

/-- One operation word: a transaction of the driving processor (R90). -/
abbrev OpWord := BitVec 16

/-- The loopy registers `v` and `t` (R35, R36, R97). -/
abbrev LoopyAddr := BitVec 15

/-- An address of the PPU address space (R61). -/
abbrev BusAddr := BitVec 14

/-- A colour index, as the palette RAM holds it (R44). -/
abbrev ColourIndex := BitVec 6

end Sys2Proof
end

