-- ==== Sys2Proof/Config.lean ====
section
/-! DEFINITION. What is fixed for a run: the launch parameters of R11 as plain data, and the open functions of R11 and
R71 (the system palette, the emphasis tint, the mapper's answers) as constants without a body. -/

namespace Sys2Proof

/-- The refresh standard (R3, R11). -/
inductive Standard where
  | ntsc60
  | pal50
  deriving DecidableEq, Repr, Inhabited

/-- The nametable mirroring mode, supplied at cartridge-load time (R11, R64). -/
inductive Mirroring where
  | horizontal
  | vertical
  | singleScreen
  | fourScreen
  deriving DecidableEq, Repr, Inhabited

/-- The launch parameters that are finite data (R11). They are arguments of the model: State carries them unchanged, so
that a statement about every state is a statement about every choice of them. -/
structure Params where
  standard : Standard
  mirroring : Mirroring
  mapperAttached : Bool
  oddFrameSkip : Bool
  spriteXOffset : Nat
  deriving DecidableEq, Repr, Inhabited

/-- One pixel colour, each component an 8-bit unsigned integer (R11, R52). -/
structure Rgb where
  r : Byte
  g : Byte
  b : Byte
  deriving DecidableEq, Repr, Inhabited

/-- One call the block makes to an external agent, with the answer where there is one (R10, R71, R73, R252). -/
inductive Event where
  /-- The mapper's `readChr(addr)` and the byte it answered (R70, R71). -/
  | readChr (addr : BusAddr) (answer : Byte)
  /-- The mapper's `writeChr(addr, value)` (R70). -/
  | writeChr (addr : BusAddr) (value : Byte)
  /-- The mapper's `addressBusChanged(addr)` (R73). -/
  | addressBusChanged (addr : BusAddr)
  /-- The frame-buffer sink's `setPixel(x, y, r, g, b)` (R252). -/
  | setPixel (x y : Nat) (rgb : Rgb)
  deriving DecidableEq, Repr, Inhabited

/-- SYSTEM_PALETTE (R11, R248): an OPEN parameter, so a constant about which nothing can be proved (log entry 4). -/
opaque Config.systemPalette : ColourIndex → Rgb

/-- EMPHASIS_TINT (R11, R248) on a nonzero emphasis field: an OPEN parameter (log entry 4). On field 0 the spec fixes the
identity, which `Machine.emphasisTint` adds. -/
opaque Config.tintNonzero : BitVec 3 → Rgb → Rgb

/-- The mapper's answer to `readChr(addr)` (R71): an oracle draw, a function without a body of everything the block has
called so far and of the address. Each read is itself recorded, so no two draws of a run have the same argument (log entry 3). -/
opaque Config.mapperReadChr : List Event → BusAddr → Byte

end Sys2Proof
end

