-- ==== Sys2Proof/Syntax.lean ====
section
/-! DEFINITION. The transactions of the block, one constructor per row of the opcode map (R105), and the transcript
syntax with its pseudo-transactions (R103, R104). -/

namespace Sys2Proof

/-- The instruction set: the twenty transactions of R105. A register write carries its data byte `d` (R93). -/
inductive Instr where
  | ctrlW (d : Byte)
  | maskW (d : Byte)
  | statusW (d : Byte)
  | oamAddrW (d : Byte)
  | oamDataW (d : Byte)
  | scrollW (d : Byte)
  | addrW (d : Byte)
  | dataW (d : Byte)
  | ctrlR
  | maskR
  | statusR
  | oamAddrR
  | oamDataR
  | scrollR
  | addrR
  | dataR
  | tick
  | reset
  | pollNmi
  | pollFrame
  deriving DecidableEq, Repr, Inhabited

/-- The eight registers by name (R92). -/
inductive Reg where
  | ctrl
  | mask
  | status
  | oamAddr
  | oamData
  | scroll
  | addr
  | data
  deriving DecidableEq, Repr, Inhabited

/-- One transcript line (R103), and one pseudo-transaction (R104). Immediate operands are the numbers a transcript writes. -/
inductive Line where
  /-- `W <REG>, #<imm8>` -/
  | write (r : Reg) (imm : Nat)
  /-- `R <REG>` -/
  | read (r : Reg)
  | tick
  | reset
  | pollNmi
  | pollFrame
  /-- `TICKS n` -/
  | ticks (n : Nat)
  /-- `SETADDR a` -/
  | setAddr (a : Nat)
  /-- `SETSCROLL sx, sy` -/
  | setScroll (sx sy : Nat)
  /-- `RSTW` -/
  | rstw
  /-- `PUT a, b0, b1, ...` -/
  | put (a : Nat) (bytes : List Nat)
  /-- `OAMPUT i, b0, b1, ...` -/
  | oamPut (i : Nat) (bytes : List Nat)
  /-- `RUNTO sl, d` -/
  | runTo (scanline dot : Nat)
  deriving DecidableEq, Repr, Inhabited

end Sys2Proof
end

