-- ==== Sys2Proof/WellFormed.lean ====
section
/-! DEFINITION. Which terms of the syntax the spec admits. A term of `Instr` is well-formed by its type: its one operand
is a byte, and all 256 values are legal for every write (R93, R106). A transcript line is checked here. -/

namespace Sys2Proof

/-- `<imm8>` is written 0 to 255 (R103). -/
def imm8Ok (n : Nat) : Bool := decide (n ≤ 255)

/-- The operand of SETADDR and PUT is 16 bits (R104). -/
def addr16Ok (a : Nat) : Bool := decide (a ≤ 0xFFFF)

/-- A RUNTO target is a position of a frame (R13, R104): a scanline up to the pre-render one and a dot 0 to 340. -/
def positionOk (preRender scanline dot : Nat) : Bool := decide (scanline ≤ preRender ∧ dot ≤ 340)

/-- A transcript line the spec admits, `preRender` being the pre-render scanline of the run (R103, R104). -/
def Line.wellFormed (preRender : Nat) : Line → Bool
  | .write _ imm => imm8Ok imm
  | .read _ => true
  | .tick => true
  | .reset => true
  | .pollNmi => true
  | .pollFrame => true
  | .ticks _ => true
  | .setAddr a => addr16Ok a
  | .setScroll sx sy => imm8Ok sx && imm8Ok sy
  | .rstw => true
  | .put a bytes => addr16Ok a && bytes.all imm8Ok
  | .oamPut i bytes => imm8Ok i && bytes.all imm8Ok
  | .runTo sl d => positionOk preRender sl d

end Sys2Proof
end

