-- ==== Sys2Proof/Decode.lean ====
section
/-! DEFINITION. Decoding of the 16-bit operation word (R90 to R93, R105, R106), total and rejecting by name, and after it
the encoder. -/

namespace Sys2Proof

/-- Why a word spells no transaction (R106). -/
inductive Reject where
  /-- `z = 1`: bit 11 is reserved and must be 0. -/
  | reservedBit
  /-- A class of 6 to 15. -/
  | reservedClass
  /-- A register read with a nonzero data field. -/
  | readWithData
  /-- A word of class 2 to 5 with nonzero bits 11..0. -/
  | operandBits
  deriving DecidableEq, Repr, Inhabited

/-- The class field `cls` (R90). -/
def opClass (w : OpWord) : BitVec 4 := w.extractLsb' 12 4

/-- The reserved bit `z` (R90). -/
def opReserved (w : OpWord) : Bool := w.getLsbD 11

/-- The register offset `r` (R90). -/
def opOffset (w : OpWord) : BitVec 3 := w.extractLsb' 8 3

/-- The data byte `d` (R90). -/
def opData (w : OpWord) : Byte := w.extractLsb' 0 8

/-- The register at an offset (R92). -/
def Reg.ofOffset (r : BitVec 3) : Reg :=
  match r.toNat with
  | 0 => .ctrl
  | 1 => .mask
  | 2 => .status
  | 3 => .oamAddr
  | 4 => .oamData
  | 5 => .scroll
  | 6 => .addr
  | _ => .data

/-- A class-0 transaction: the write of `d` to a register (R91, R93). -/
def writeInstr (r : Reg) (d : Byte) : Instr :=
  match r with
  | .ctrl => .ctrlW d
  | .mask => .maskW d
  | .status => .statusW d
  | .oamAddr => .oamAddrW d
  | .oamData => .oamDataW d
  | .scroll => .scrollW d
  | .addr => .addrW d
  | .data => .dataW d

/-- A class-1 transaction: the read of a register (R91). -/
def readInstr (r : Reg) : Instr :=
  match r with
  | .ctrl => .ctrlR
  | .mask => .maskR
  | .status => .statusR
  | .oamAddr => .oamAddrR
  | .oamData => .oamDataR
  | .scroll => .scrollR
  | .addr => .addrR
  | .data => .dataR

/-- A class 2 to 5 word has bits 11..0 all zero (R93). -/
def bareWord (w : OpWord) (i : Instr) : Except Reject Instr :=
  if w.extractLsb' 0 12 = 0 then .ok i else .error .operandBits

/-- The decoder (R105, R106): the transaction a word spells, or why it spells none. -/
def decode (w : OpWord) : Except Reject Instr :=
  if opReserved w then .error .reservedBit
  else
    match (opClass w).toNat with
    | 0 => .ok (writeInstr (Reg.ofOffset (opOffset w)) (opData w))
    | 1 => if opData w = 0 then .ok (readInstr (Reg.ofOffset (opOffset w))) else .error .readWithData
    | 2 => bareWord w .tick
    | 3 => bareWord w .reset
    | 4 => bareWord w .pollNmi
    | 5 => bareWord w .pollFrame
    | _ => .error .reservedClass

/-- The operation word with these fields, bit 15 first (R90); the reserved bit is 0. -/
def opWord (cls : BitVec 4) (r : BitVec 3) (d : Byte) : OpWord := cls ++ 0#1 ++ r ++ d

/-- The offset of a register (R92). -/
def Reg.offset : Reg → BitVec 3
  | .ctrl => 0
  | .mask => 1
  | .status => 2
  | .oamAddr => 3
  | .oamData => 4
  | .scroll => 5
  | .addr => 6
  | .data => 7

/-- The encoder: the word of an instruction, from the rows of R105. -/
def encode : Instr → OpWord
  | .ctrlW d => opWord 0b0000 0 d
  | .maskW d => opWord 0b0000 1 d
  | .statusW d => opWord 0b0000 2 d
  | .oamAddrW d => opWord 0b0000 3 d
  | .oamDataW d => opWord 0b0000 4 d
  | .scrollW d => opWord 0b0000 5 d
  | .addrW d => opWord 0b0000 6 d
  | .dataW d => opWord 0b0000 7 d
  | .ctrlR => opWord 0b0001 0 0
  | .maskR => opWord 0b0001 1 0
  | .statusR => opWord 0b0001 2 0
  | .oamAddrR => opWord 0b0001 3 0
  | .oamDataR => opWord 0b0001 4 0
  | .scrollR => opWord 0b0001 5 0
  | .addrR => opWord 0b0001 6 0
  | .dataR => opWord 0b0001 7 0
  | .tick => opWord 0b0010 0 0
  | .reset => opWord 0b0011 0 0
  | .pollNmi => opWord 0b0100 0 0
  | .pollFrame => opWord 0b0101 0 0

/-- The word a row of the opcode table of `nbits` bits spells: every bit above `nbits` is 0. -/
def tableWord (nbits w : Nat) : OpWord := BitVec.ofNat 16 (w % 2 ^ nbits)

/-- The instruction the decoder reads from a word of the opcode table: every row is one 16-bit word (R102). -/
def decodeTableWord (nbits w : Nat) : Option Instr :=
  match decode (tableWord nbits w) with
  | .ok i => some i
  | .error _ => none

end Sys2Proof
end

