-- ==== Sys2Proof/Machine/Launch.lean ====
section
/-! DEFINITION. The launch parameters: their defaults (R11) and the ones State.reset starts from. -/

namespace Sys2Proof.Machine

/-- The parameters with the defaults of R11; `STANDARD` and `MIRRORING` have none and are arguments. -/
def defaultParams (standard : Standard) (mirroring : Mirroring) : Params where
  standard := standard
  mirroring := mirroring
  mapperAttached := true
  oddFrameSkip := standard == .ntsc60
  spriteXOffset := 2

/-- DESIGN CHOICE (log entry 2, unsafe): the parameters of `State.reset`, those of 95_test_vectors.md section 0, which every
worked example of the spec starts from. No rule fixes them, and no statement rests on them: State carries them as data. -/
def launchParams : Params := { defaultParams .ntsc60 .vertical with mapperAttached := false }

end Sys2Proof.Machine
end

