-- ==== Sys2Proof/Machine/State.lean ====
section
/-! DEFINITION. The state of the block (10_state.md), the reasons a step can stop, and the state after reset. -/

namespace Sys2Proof.Machine

/-- A memory of `w`-bit cells: address and value pairs, addresses strictly rising, no value 0. An unlisted address reads
as 0: the reset value the spec gives every memory that RESET writes (R43, R44, R48, R49). A memory of bytes is a list of
`Host.Cell`. -/
abbrev Memory (w : Nat) := List (Nat × BitVec w)

/-- One slot of a sprite render buffer (R51). -/
structure SpriteSlot where
  patLo : Byte
  patHi : Byte
  attr : Byte
  xpos : Byte
  deriving DecidableEq, Repr, Inhabited

/-- A sprite render buffer (R51). -/
structure SpriteBuffer where
  /-- 0 to 8. -/
  count : Nat
  /-- None, or the slot that holds OAM sprite 0. -/
  sprite0Slot : Option (Fin 8)
  slots : Vector SpriteSlot 8
  deriving DecidableEq, Repr

/-- The result a transaction returns out of band (R90, R91). -/
inductive Result where
  /-- Register writes and RESET return nothing. -/
  | nothing
  /-- A register read returns a byte. -/
  | byte (b : Byte)
  /-- TICK returns `oddFrame`, a poll returns its flag. -/
  | bit (b : Bool)
  deriving DecidableEq, Repr, Inhabited

/-- The state of the block: the fields of 10_state.md under their names, and below them the model's own fields. -/
structure State where
  /-- R22: 0 to `preRender`. -/
  scanline : Nat
  /-- R23: 0 to 340. -/
  dot : Nat
  /-- R24. -/
  totalCycles : BitVec 64
  /-- R25. -/
  oddFrame : Bool
  /-- R26. -/
  vblank : Bool
  /-- R27. -/
  sprite0Hit : Bool
  /-- R28. -/
  spriteOverflow : Bool
  /-- R29. -/
  nmiPending : Bool
  /-- R30. -/
  frameComplete : Bool
  /-- R31. -/
  vblankStartDot : Bool
  /-- R32. -/
  inVBlank : Bool
  /-- R33. -/
  ctrl : Byte
  /-- R34. -/
  mask : Byte
  /-- R35. -/
  v : LoopyAddr
  /-- R36. -/
  t : LoopyAddr
  /-- R37. -/
  x : BitVec 3
  /-- R38. -/
  w : Bool
  /-- R39. -/
  oamAddr : Byte
  /-- R40. -/
  ioLatch : Byte
  /-- R41. -/
  readBuffer : Byte
  /-- R42. -/
  busAddr : BusAddr
  /-- R43: 2048 bytes, 4096 with four-screen mirroring. -/
  ntRam : Memory 8
  /-- R44: 32 entries of 6 bits. -/
  palRam : Memory 6
  /-- R45: 8192 bytes, in use only without a mapper. -/
  chrFallback : Memory 8
  /-- R46: the four background fetch latches. -/
  ntLatch : Byte
  atLatch : Byte
  ptLoLatch : Byte
  ptHiLatch : Byte
  /-- R47: the four background shift registers. -/
  bgPatLo : BitVec 16
  bgPatHi : BitVec 16
  bgAttrLo : BitVec 16
  bgAttrHi : BitVec 16
  /-- R48: primary OAM, 256 bytes. -/
  oam : Memory 8
  /-- R49: secondary OAM, 32 bytes. -/
  secOam : Memory 8
  /-- R50: 0 to 64. -/
  evalN : Nat
  /-- R50. -/
  evalM : BitVec 2
  /-- R50: 0 to 8. -/
  evalFound : Nat
  /-- R50. -/
  evalSprite0 : Bool
  /-- R51: the buffer the sprite pixel reads. -/
  cur : SpriteBuffer
  /-- R51: the buffer the sprite fetch writes. -/
  next : SpriteBuffer
  /-- R51: the two sprite fetch latches. -/
  spLoLatch : Byte
  spHiLatch : Byte
  /-- R52: the frame-buffer image, the pixel at column `x` of row `y` under `256 * y + x`; an unwritten entry is unlisted
  and has no value. -/
  fb : List (Nat × Rgb)
  /-- The model's own field (log entry 2): the launch parameters of R11, which nothing changes. -/
  params : Params
  /-- The model's own field (log entry 5): the result of the last transaction (R90). -/
  result : Result
  /-- The model's own field (log entry 3): every call made to the mapper and the sink, newest first (R71, R73, R252). -/
  events : List Event
  /-- The model's own field (log entry 1): the operation words the driving processor has issued and the block has not yet
  taken, oldest first (R9, R10). -/
  issued : List OpWord
  deriving DecidableEq, Repr

/-- The block raises no exception and no operation can fail (R260): no step faults, so there is no fault. Safe and unsafe
do not arise. -/
inductive Fault where
  deriving DecidableEq, Repr

/-- Why a step is refused. -/
inductive Refusal where
  /-- Raised by `exec` for an instruction without a meaning; no arm of this model raises it. Safe: the run stops. -/
  | notModelled (mnemonic : String)
  /-- Raised by `step` on a word that spells no transaction: "a model refuses it (no step, refusal mark set)" (R106, R262).
  Safe: it is what the spec says, and the run stops. -/
  | illegalWord (word : OpWord) (why : Reject)
  deriving DecidableEq, Repr

/-- An empty sprite buffer: all 0, no sprite 0 (R51, R53). -/
def SpriteBuffer.zero : SpriteBuffer where
  count := 0
  sprite0Slot := none
  slots := Vector.replicate 8 ⟨0, 0, 0, 0⟩

/-- The state after reset (R53, R280, R282): power-on is RESET, with `fb` unwritten (R52) and `chrFallback` at its launch
contents (R45). DESIGN CHOICE, unsafe: the launch parameters and the all-zero `chrFallback` are log entry 2's. Nothing is
issued: the block does nothing until TICKed (R281). -/
def State.reset : State where
  scanline := 0
  dot := 0
  totalCycles := 0
  oddFrame := false
  vblank := false
  sprite0Hit := false
  spriteOverflow := false
  nmiPending := false
  frameComplete := false
  vblankStartDot := false
  inVBlank := false
  ctrl := 0
  mask := 0
  v := 0
  t := 0
  x := 0
  w := false
  oamAddr := 0
  ioLatch := 0
  readBuffer := 0
  busAddr := 0
  ntRam := []
  palRam := []
  chrFallback := []
  ntLatch := 0
  atLatch := 0
  ptLoLatch := 0
  ptHiLatch := 0
  bgPatLo := 0
  bgPatHi := 0
  bgAttrLo := 0
  bgAttrHi := 0
  oam := []
  secOam := []
  evalN := 0
  evalM := 0
  evalFound := 0
  evalSprite0 := false
  cur := SpriteBuffer.zero
  next := SpriteBuffer.zero
  spLoLatch := 0
  spHiLatch := 0
  fb := []
  params := launchParams
  result := .nothing
  events := []
  issued := []

end Sys2Proof.Machine
end

