-- ==== Sys2Proof/Machine/Operands.lean ====
section
/-! DEFINITION. The fields of the register bytes, of `v` and `t`, and of the sprite attribute byte (30_encoding.md), the
fetch addresses built from them, and bit reversal. -/

namespace Sys2Proof.Machine

/-! The CTRL byte (R94). -/

/-- `ctrl[1:0]`. -/
def nametableSelect (c : Byte) : BitVec 2 := c.extractLsb' 0 2

/-- `nametableBase = 0x2000 | (ctrl[1:0] << 10)` (R94). -/
def nametableBase (c : Byte) : BusAddr := 0x2000#14 ||| ((nametableSelect c).setWidth 14 <<< 10)

/-- `vramIncrement = ctrl[2] ? 32 : 1` (R94). -/
def vramIncrement (c : Byte) : LoopyAddr := if c.getLsbD 2 then 32#15 else 1#15

/-- `spritePatternBase = ctrl[3] ? 0x1000 : 0x0000` (R94). -/
def spritePatternBase (c : Byte) : BusAddr := if c.getLsbD 3 then 0x1000#14 else 0#14

/-- `bgPatternBase = ctrl[4] ? 0x1000 : 0x0000` (R94). -/
def bgPatternBase (c : Byte) : BusAddr := if c.getLsbD 4 then 0x1000#14 else 0#14

/-- `spriteHeight = ctrl[5] ? 16 : 8` (R94). -/
def spriteHeight (c : Byte) : Nat := if c.getLsbD 5 then 16 else 8

/-- `nmiEnabled = ctrl[7]` (R94). -/
def nmiEnabled (c : Byte) : Bool := c.getLsbD 7

/-! The MASK byte (R95). -/

/-- `mask[0]`. -/
def grayscale (m : Byte) : Bool := m.getLsbD 0

/-- `mask[1]`: background shown in columns 0 to 7. -/
def showLeftBackground (m : Byte) : Bool := m.getLsbD 1

/-- `mask[2]`: sprites shown in columns 0 to 7. -/
def showLeftSprites (m : Byte) : Bool := m.getLsbD 2

/-- `mask[3]`. -/
def showBackground (m : Byte) : Bool := m.getLsbD 3

/-- `mask[4]`. -/
def showSprites (m : Byte) : Bool := m.getLsbD 4

/-- `e = mask[7:5]`. -/
def emphasisField (m : Byte) : BitVec 3 := m.extractLsb' 5 3

/-! The loopy layout of `v` and `t` (R97). -/

/-- Bits 4..0. -/
def coarseX (v : LoopyAddr) : BitVec 5 := v.extractLsb' 0 5

/-- Bits 9..5. -/
def coarseY (v : LoopyAddr) : BitVec 5 := v.extractLsb' 5 5

/-- Bits 14..12. -/
def fineY (v : LoopyAddr) : BitVec 3 := v.extractLsb' 12 3

/-- Replace bits 4..0. -/
def setCoarseX (v : LoopyAddr) (c : BitVec 5) : LoopyAddr := (v &&& ~~~0x001F#15) ||| c.setWidth 15

/-- Replace bits 9..5. -/
def setCoarseY (v : LoopyAddr) (c : BitVec 5) : LoopyAddr := (v &&& ~~~0x03E0#15) ||| (c.setWidth 15 <<< 5)

/-- Replace bits 14..12. -/
def setFineY (v : LoopyAddr) (f : BitVec 3) : LoopyAddr := (v &&& ~~~0x7000#15) ||| (f.setWidth 15 <<< 12)

/-- `v & 0x3FFF`: bit 14 is not an address bit (R61). -/
def dataAddr (v : LoopyAddr) : BusAddr := v.setWidth 14

/-! Operand assembly into `t` and `x`. -/

/-- CTRL_W copies the nametable select into `t[11:10]` (R121). -/
def ctrlIntoT (t : LoopyAddr) (d : Byte) : LoopyAddr :=
  (t &&& ~~~0x0C00#15) ||| ((nametableSelect d).setWidth 15 <<< 10)

/-- First SCROLL half: `t[4:0] <- d[7:3]` (R98). -/
def scrollFirstIntoT (t : LoopyAddr) (d : Byte) : LoopyAddr := setCoarseX t (d.extractLsb' 3 5)

/-- First SCROLL half: `x <- d[2:0]` (R98). -/
def scrollFineX (d : Byte) : BitVec 3 := d.extractLsb' 0 3

/-- Second SCROLL half: `t[14:12] <- d[2:0]`, `t[9:5] <- d[7:3]` (R98). -/
def scrollSecondIntoT (t : LoopyAddr) (d : Byte) : LoopyAddr :=
  setCoarseY (setFineY t (d.extractLsb' 0 3)) (d.extractLsb' 3 5)

/-- First ADDR half: `t[13:8] <- d[5:0]`, `t[14] <- 0` (R99). -/
def addrFirstIntoT (t : LoopyAddr) (d : Byte) : LoopyAddr :=
  (t &&& 0x00FF#15) ||| ((d.extractLsb' 0 6).setWidth 15 <<< 8)

/-- Second ADDR half: `t[7:0] <- d` (R99). -/
def addrSecondIntoT (t : LoopyAddr) (d : Byte) : LoopyAddr := (t &&& ~~~0x00FF#15) ||| d.setWidth 15

/-! Scroll increments and copies (R170 to R173). -/

/-- `IncrementCoarseX` on `v` (R170). -/
def incCoarseX (v : LoopyAddr) : LoopyAddr :=
  if coarseX v = 31#5 then setCoarseX v 0#5 ^^^ 0x0400#15 else v + 1#15

/-- `IncrementFineY` on `v` (R171). -/
def incFineY (v : LoopyAddr) : LoopyAddr :=
  if fineY v < 7#3 then v + 0x1000#15
  else
    let v := setFineY v 0#3
    let cy := coarseY v
    if cy = 29#5 then setCoarseY (v ^^^ 0x0800#15) 0#5
    else if cy = 31#5 then setCoarseY v 0#5
    else setCoarseY v (cy + 1#5)

/-- `CopyHorizontalBits` (R172). -/
def copyHorizontal (v t : LoopyAddr) : LoopyAddr := (v &&& ~~~0x041F#15) ||| (t &&& 0x041F#15)

/-- `CopyVerticalBits` (R173). -/
def copyVertical (v t : LoopyAddr) : LoopyAddr := (v &&& ~~~0x7BE0#15) ||| (t &&& 0x7BE0#15)

/-! Fetch addresses. -/

/-- The nametable fetch address `0x2000 | (v & 0x0FFF)` (R175). -/
def nametableAddr (v : LoopyAddr) : BusAddr := 0x2000#14 ||| (v &&& 0x0FFF#15).setWidth 14

/-- The attribute fetch address (R176). -/
def attributeAddr (v : LoopyAddr) : BusAddr :=
  0x23C0#14 ||| (v &&& 0x0C00#15).setWidth 14 ||| ((v >>> 4) &&& 0x38#15).setWidth 14 ||| ((v >>> 2) &&& 0x07#15).setWidth 14

/-- A low-plane pattern address `base | (tile << 4) | row` (R177, R213). -/
def patternAddr (base : BusAddr) (tile : Byte) (row : BitVec 3) : BusAddr :=
  base ||| (tile.setWidth 14 <<< 4) ||| row.setWidth 14

/-- The high plane, at the same address with bit 3 set (R178, R214). -/
def highPlane (a : BusAddr) : BusAddr := a ||| 0x0008#14

/-- `AttrShift(v) = ((v[9:5] & 2) << 1) | (v[4:0] & 2)` (R180). -/
def attrShift (v : LoopyAddr) : BitVec 5 := ((coarseY v &&& 2#5) <<< 1) ||| (coarseX v &&& 2#5)

/-! The sprite attribute byte (R101). -/

/-- `attr[1:0]`: the sprite palette. -/
def spritePalette (a : Byte) : BitVec 2 := a.extractLsb' 0 2

/-- `attr[5] = 0`: in front of the background. -/
def spriteInFront (a : Byte) : Bool := !a.getLsbD 5

/-- `attr[6]`. -/
def flipsHorizontally (a : Byte) : Bool := a.getLsbD 6

/-- `attr[7]`. -/
def flipsVertically (a : Byte) : Bool := a.getLsbD 7

/-- `Rev8(b)[j] = b[7 - j]` (R216). -/
def rev8 (b : Byte) : Byte := b.reverse

end Sys2Proof.Machine
end

