-- ==== Sys2Proof/Machine/Flags.lean ====
section
/-! DEFINITION. The derived conditions of the block (R17, R156) and the status byte (R96). -/

namespace Sys2Proof.Machine

/-- The pre-render scanline of a refresh standard: 261 or 311 (R3, R11). -/
def preRenderOf (st : Standard) : Nat :=
  match st with
  | .ntsc60 => 261
  | .pal50 => 311

/-- `preRender` (R11). -/
def preRender (s : State) : Nat := preRenderOf s.params.standard

/-- `visible(sl) = (0 <= sl <= 239)` (R156). -/
def visible (sl : Nat) : Bool := decide (sl ≤ 239)

/-- `renderingEnabled = mask[3] | mask[4]` (R95). -/
def renderingEnabled (s : State) : Bool := showBackground s.mask || showSprites s.mask

/-- `activeLine` (R156). -/
def activeLine (s : State) : Bool :=
  renderingEnabled s && (visible s.scanline || s.scanline == preRender s)

/-- The byte STATUS_R returns: `vblank`, `sprite0Hit`, `spriteOverflow` and `ioLatch[4:0]` (R96). -/
def statusByte (s : State) : Byte :=
  BitVec.ofBool s.vblank ++ BitVec.ofBool s.sprite0Hit ++ BitVec.ofBool s.spriteOverflow ++ s.ioLatch.extractLsb' 0 5

end Sys2Proof.Machine
end

