-- ==== Sys2Proof/Machine/Ops.lean ====
section
/-! DEFINITION. The shared operations: memories in canonical form, the PPU address space (20_memory.md), OAM, the frame
buffer, the status transitions, and the ends of a register transaction. The block takes no exception and has no trap entry
or return (R260, R270, R271); the nearest thing, the VBlank entry that raises `nmiPending`, is `enterVBlank`. -/

namespace Sys2Proof.Machine

/-! Cells by address: a list with strictly rising addresses. -/

/-- The value listed at an address. -/
def cellAt {α : Type} : List (Nat × α) → Nat → Option α
  | [], _ => none
  | (b, v) :: rest, a => if b = a then some v else cellAt rest a

/-- List a value at an address. -/
def putCell {α : Type} : List (Nat × α) → Nat → α → List (Nat × α)
  | [], a, v => [(a, v)]
  | (b, u) :: rest, a, v =>
    if a < b then (a, v) :: (b, u) :: rest
    else if a = b then (a, v) :: rest
    else (b, u) :: putCell rest a v

/-- Take an address off the list. -/
def dropCell {α : Type} : List (Nat × α) → Nat → List (Nat × α)
  | [], _ => []
  | (b, u) :: rest, a => if b = a then dropCell rest a else (b, u) :: dropCell rest a

/-- The addresses of a list are strictly rising. -/
def risingCells {α : Type} (m : List (Nat × α)) : Bool := decide ((m.map Prod.fst).Pairwise (· < ·))

/-- What an unlisted address of a memory reads as: 0, the reset value (R43, R44, R48, R49), and for `chrFallback` the
launch contents of log entry 2. -/
def unlisted {w : Nat} : BitVec w := 0

/-- Read one cell. -/
def Memory.read {w : Nat} (m : Memory w) (a : Nat) : BitVec w := (cellAt m a).getD unlisted

/-- Write one cell: the value an unlisted address reads as takes the entry off. -/
def Memory.write {w : Nat} (m : Memory w) (a : Nat) (v : BitVec w) : Memory w :=
  if v = unlisted then dropCell m a else putCell m a v

/-- The canonical form: addresses strictly rising, no entry equal to what an unlisted address reads as. -/
def Memory.wf {w : Nat} (m : Memory w) : Bool := risingCells m && m.all (fun c => c.2 != unlisted)

/-- Every listed address is below a bound: the memory has that many cells. -/
def cellsBelow {α : Type} (bound : Nat) (m : List (Nat × α)) : Bool := m.all (fun c => decide (c.1 < bound))

/-! The address bus and the mapper. -/

/-- Record a call to an external agent, newest first. -/
def record (e : Event) (s : State) : State := { s with events := e :: s.events }

/-- `BusPlace(addr)` (R73): a changed address is kept and, with a mapper attached, notified. -/
def busPlace (a : BusAddr) (s : State) : State :=
  if a = s.busAddr then s
  else if s.params.mapperAttached then record (.addressBusChanged a) { s with busAddr := a }
  else { s with busAddr := a }

/-- `ChrRead(addr)` (R70): the mapper's answer, an oracle draw recorded with its address (R71), or the fallback buffer. -/
def chrRead (a : BusAddr) (s : State) : Byte × State :=
  if s.params.mapperAttached then
    let answer := Config.mapperReadChr s.events a
    (answer, record (.readChr a answer) s)
  else (s.chrFallback.read a.toNat, s)

/-- `ChrWrite(addr, value)` (R70). -/
def chrWrite (a : BusAddr) (b : Byte) (s : State) : State :=
  if s.params.mapperAttached then record (.writeChr a b) s
  else { s with chrFallback := s.chrFallback.write a.toNat b }

/-! Nametable RAM. -/

/-- `NtIndex(a)` for a reduced 12-bit address (R64). -/
def ntIndex (m : Mirroring) (a : BitVec 12) : Nat :=
  match m with
  | .vertical => (a &&& 0x07FF#12).toNat
  | .horizontal => ((a.extractLsb' 11 1).setWidth 12 <<< 10 ||| (a.extractLsb' 0 10).setWidth 12).toNat
  | .singleScreen => (a.extractLsb' 0 10).toNat
  | .fourScreen => a.toNat

/-- The size of `ntRam` (R65). -/
def ntSize (m : Mirroring) : Nat :=
  match m with
  | .fourScreen => 4096
  | _ => 2048

/-- `NtRead(addr) = ntRam[NtIndex(addr & 0x0FFF)]` (R66). -/
def ntRead (a : BusAddr) (s : State) : Byte := s.ntRam.read (ntIndex s.params.mirroring (a.setWidth 12))

/-- `NtWrite(addr, value)` (R66). -/
def ntWrite (a : BusAddr) (b : Byte) (s : State) : State :=
  { s with ntRam := s.ntRam.write (ntIndex s.params.mirroring (a.setWidth 12)) b }

/-! Palette RAM. -/

/-- `PalIndex(i)` (R68): 0x10, 0x14, 0x18 and 0x1C alias to 0x00, 0x04, 0x08 and 0x0C. -/
def palIndex (i : BitVec 5) : BitVec 5 := if i &&& 0x13#5 = 0x10#5 then i &&& 0x0F#5 else i

/-- The 6-bit entry `palRam[PalIndex(i)]`. -/
def palEntry (i : BitVec 5) (s : State) : ColourIndex := s.palRam.read (palIndex i).toNat

/-- `PalRead(i)` (R68): the entry, bits 7..6 being 0. -/
def palRead (i : BitVec 5) (s : State) : Byte := (palEntry i s).setWidth 8

/-- `PalWrite(i, value)` (R68): the low 6 bits are kept. -/
def palWrite (i : BitVec 5) (b : Byte) (s : State) : State :=
  { s with palRam := s.palRam.write (palIndex i).toNat (b.setWidth 6) }

/-! The PPU address space (R62). -/

/-- `MemRead(addr, 1)` (R62): the byte, and the state with the address placed on the bus. -/
def memRead (a : BusAddr) (s : State) : Byte × State :=
  let s := busPlace a s
  if a ≤ 0x1FFF#14 then chrRead a s
  else if a ≤ 0x3EFF#14 then (ntRead a s, s)
  else (palRead (a.setWidth 5) s, s)

/-- `MemWrite(addr, 1, value)` (R62). -/
def memWrite (a : BusAddr) (b : Byte) (s : State) : State :=
  let s := busPlace a s
  if a ≤ 0x1FFF#14 then chrWrite a b s
  else if a ≤ 0x3EFF#14 then ntWrite a b s
  else palWrite (a.setWidth 5) b s

/-! OAM and secondary OAM. -/

/-- `OamRead(i) = oam[i]` (R74). -/
def oamRead (i : Byte) (s : State) : Byte := s.oam.read i.toNat

/-- The byte OAM keeps at an index: an attribute byte loses bits 4..2 (R48, R74). -/
def oamKeeps (i : Byte) (b : Byte) : Byte := if i.toNat % 4 = 2 then b &&& 0xE3#8 else b

/-- `OamWrite(i, value)` (R74). -/
def oamWrite (i : Byte) (b : Byte) (s : State) : State := { s with oam := s.oam.write i.toNat (oamKeeps i b) }

/-- `secOam[i]`, the 5-bit index wrapped (R60, R261). -/
def secRead (i : Nat) (s : State) : Byte := s.secOam.read (i % 32)

/-- `secOam[i] <- b`, the 5-bit index wrapped (R60, R261). -/
def secWrite (i : Nat) (b : Byte) (s : State) : State := { s with secOam := s.secOam.write (i % 32) b }

/-! The frame buffer. -/

/-- The frame-buffer entry at column `x` of row `y`; none before its first write (R52). -/
def pixelAt (x y : Nat) (s : State) : Option Rgb := cellAt s.fb (256 * y + x)

/-- `SetPixel(x, y, r, g, b)` (R252): the sink's call, and the model's copy of the image. -/
def setPixel (x y : Nat) (c : Rgb) (s : State) : State :=
  record (.setPixel x y c) { s with fb := putCell s.fb (256 * y + x) c }

/-! Status transitions. -/

/-- `EnterVBlank()` (R155). -/
def enterVBlank (s : State) : State :=
  { s with
    vblank := true
    frameComplete := true
    vblankStartDot := true
    inVBlank := true
    nmiPending := s.nmiPending || nmiEnabled s.ctrl }

/-- `ExitVBlank()` (R157). -/
def exitVBlank (s : State) : State :=
  { s with
    vblank := false
    nmiPending := false
    sprite0Hit := false
    spriteOverflow := false
    inVBlank := false }

/-! The ends of a register transaction (R120). -/

/-- A register write leaves its byte on the I/O latch and returns nothing. -/
def endWrite (d : Byte) (s : State) : State := { s with ioLatch := d, result := .nothing }

/-- A read of STATUS, OAMDATA or DATA returns its byte and leaves it on the I/O latch. -/
def endRead (b : Byte) (s : State) : State := { s with ioLatch := b, result := .byte b }

/-- A read of a write-only offset returns the I/O latch and leaves it. -/
def latchRead (s : State) : State := { s with result := .byte s.ioLatch }

end Sys2Proof.Machine
end

