-- ==== Sys2Proof/Machine/Background.lean ====
section
/-! DEFINITION. The background pipeline: fetches, shift registers, scroll increments and the background pixel
(42_background.md). -/

namespace Sys2Proof.Machine

/-- `ShiftRegisters()` (R181): a 0 enters at bit 0. -/
def shiftRegisters (s : State) : State :=
  { s with
    bgPatLo := s.bgPatLo <<< 1
    bgPatHi := s.bgPatHi <<< 1
    bgAttrLo := s.bgAttrLo <<< 1
    bgAttrHi := s.bgAttrHi <<< 1 }

/-- Nametable fetch (R175). -/
def fetchNametable (s : State) : State :=
  let r := memRead (nametableAddr s.v) s
  { r.2 with ntLatch := r.1 }

/-- Attribute fetch (R176). -/
def fetchAttribute (s : State) : State :=
  let r := memRead (attributeAddr s.v) s
  { r.2 with atLatch := r.1 }

/-- The address of the pattern low fetch (R177). -/
def bgPatternAddr (s : State) : BusAddr := patternAddr (bgPatternBase s.ctrl) s.ntLatch (fineY s.v)

/-- Pattern low fetch (R177). -/
def fetchPatternLow (s : State) : State :=
  let r := memRead (bgPatternAddr s) s
  { r.2 with ptLoLatch := r.1 }

/-- Pattern high fetch (R178). -/
def fetchPatternHigh (s : State) : State :=
  let r := memRead (highPlane (bgPatternAddr s)) s
  { r.2 with ptHiLatch := r.1 }

/-- Merge a byte into the low half of a shift register; the high half is kept (R179). -/
def loadLow (r : BitVec 16) (b : Byte) : BitVec 16 := (r &&& 0xFF00#16) ||| b.setWidth 16

/-- One palette bit expanded to 8 copies (R179). -/
def eightCopies (b : Bool) : Byte := if b then 0xFF#8 else 0#8

/-- The 2-bit palette number of the tile being loaded (R179, R180). -/
def tilePalette (s : State) : BitVec 2 := (s.atLatch >>> (attrShift s.v).toNat).setWidth 2

/-- `LoadShiftRegisters()` (R179). -/
def loadShiftRegisters (s : State) : State :=
  { s with
    bgPatLo := loadLow s.bgPatLo s.ptLoLatch
    bgPatHi := loadLow s.bgPatHi s.ptHiLatch
    bgAttrLo := loadLow s.bgAttrLo (eightCopies ((tilePalette s).getLsbD 0))
    bgAttrHi := loadLow s.bgAttrHi (eightCopies ((tilePalette s).getLsbD 1)) }

/-- `IncrementCoarseX()` (R170). -/
def incrementCoarseX (s : State) : State := { s with v := incCoarseX s.v }

/-- `IncrementFineY()` (R171). -/
def incrementFineY (s : State) : State := { s with v := incFineY s.v }

/-- A nametable read whose value is discarded (R183, R211). -/
def dummyNametableRead (s : State) : State := (memRead (nametableAddr s.v) s).2

/-- The background runs on dots 1 to 256 and 321 to 336 (R174, R182). -/
def inFetchDots (d : Nat) : Bool := decide (1 ≤ d ∧ d ≤ 256) || decide (321 ≤ d ∧ d ≤ 336)

/-- The work of one step of an 8-dot tile group (R174). -/
def fetchStep (k : Nat) (s : State) : State :=
  match k with
  | 0 => fetchNametable s
  | 2 => fetchAttribute s
  | 4 => fetchPatternLow s
  | 6 => fetchPatternHigh s
  | 7 => incrementCoarseX (loadShiftRegisters s)
  | _ => s

/-- The shift and fetch step of a fetch dot (R182, R189). -/
def bgFetchDot (s : State) : State :=
  if inFetchDots s.dot then fetchStep ((s.dot - 1) % 8) (shiftRegisters s) else s

/-- `v` after the increments and copies at fixed dots, in their order (R185 to R187, R189). -/
def fixedDotsV (s : State) : LoopyAddr :=
  let v := if s.dot = 256 then incFineY s.v else s.v
  let v := if s.dot = 257 then copyHorizontal v s.t else v
  if s.scanline = preRender s ∧ 280 ≤ s.dot ∧ s.dot ≤ 304 then copyVertical v s.t else v

/-- The increments, copies and dummy reads at fixed dots (R183, R185 to R187, R189). -/
def bgFixedDots (s : State) : State :=
  let s := { s with v := fixedDotsV s }
  if s.dot = 337 ∨ s.dot = 339 then dummyNametableRead s else s

/-- `BackgroundDot()` (R189), on every dot of an active line. -/
def backgroundDot (s : State) : State := bgFixedDots (bgFetchDot s)

/-- `BgPixel()` (R188): 0 when transparent, else `4 * pal + p`, 1 to 15. -/
def bgPixel (s : State) : BitVec 5 :=
  let b := 15 - s.x.toNat
  let p := BitVec.ofBool (s.bgPatHi.getLsbD b) ++ BitVec.ofBool (s.bgPatLo.getLsbD b)
  let pal := BitVec.ofBool (s.bgAttrHi.getLsbD b) ++ BitVec.ofBool (s.bgAttrLo.getLsbD b)
  if p = 0#2 then 0#5 else 4#5 * pal.setWidth 5 + p.setWidth 5

end Sys2Proof.Machine
end

