-- ==== Sys2Proof/Machine/RegisterWrites.lean ====
section
/-! DEFINITION. The register writes and the data-port increment (40_registers.md sections 2 and 4). -/

namespace Sys2Proof.Machine

/-- `DataIncrement()` (R137): the rendering glitch on an active line, else the CTRL increment masked to 14 bits. -/
def dataIncrement (s : State) : State :=
  if activeLine s then incrementFineY (incrementCoarseX s)
  else
    let v := (s.v + vramIncrement s.ctrl) &&& 0x3FFF#15
    busPlace (dataAddr v) { s with v := v }

/-- CTRL_W (R121). -/
def execCtrlW (d : Byte) (s : State) : Host.Outcome State Fault Refusal :=
  .next (endWrite d { s with ctrl := d, t := ctrlIntoT s.t d })

/-- MASK_W (R122). -/
def execMaskW (d : Byte) (s : State) : Host.Outcome State Fault Refusal :=
  .next (endWrite d { s with mask := d })

/-- STATUS_W (R123): the I/O latch only. -/
def execStatusW (d : Byte) (s : State) : Host.Outcome State Fault Refusal := .next (endWrite d s)

/-- OAMADDR_W (R124). -/
def execOamAddrW (d : Byte) (s : State) : Host.Outcome State Fault Refusal :=
  .next (endWrite d { s with oamAddr := d })

/-- OAM data written, or ignored on an active line with the address advanced by 4 (R125). -/
def storeOamData (d : Byte) (s : State) : State :=
  if activeLine s then { s with oamAddr := s.oamAddr + 4#8 }
  else
    let s := oamWrite s.oamAddr d s
    { s with oamAddr := s.oamAddr + 1#8 }

/-- OAMDATA_W (R125). -/
def execOamDataW (d : Byte) (s : State) : Host.Outcome State Fault Refusal := .next (endWrite d (storeOamData d s))

/-- The half of the scroll position that the toggle selects (R98, R126). -/
def writeScroll (d : Byte) (s : State) : State :=
  if s.w then { s with t := scrollSecondIntoT s.t d, w := false }
  else { s with t := scrollFirstIntoT s.t d, x := scrollFineX d, w := true }

/-- SCROLL_W (R126). -/
def execScrollW (d : Byte) (s : State) : Host.Outcome State Fault Refusal := .next (endWrite d (writeScroll d s))

/-- The half of the address that the toggle selects; off active lines the second half places the address (R99, R127). -/
def writeAddr (d : Byte) (s : State) : State :=
  if s.w then
    let t := addrSecondIntoT s.t d
    let s := { s with t := t, v := t, w := false }
    if activeLine s then s else busPlace (dataAddr s.v) s
  else { s with t := addrFirstIntoT s.t d, w := true }

/-- ADDR_W (R127). -/
def execAddrW (d : Byte) (s : State) : Host.Outcome State Fault Refusal := .next (endWrite d (writeAddr d s))

/-- DATA_W (R128). -/
def execDataW (d : Byte) (s : State) : Host.Outcome State Fault Refusal :=
  .next (endWrite d (dataIncrement (memWrite (dataAddr s.v) d s)))

end Sys2Proof.Machine
end

