-- ==== Sys2Proof/Machine/RegisterReads.lean ====
section
/-! DEFINITION. The register reads and the polls (40_registers.md sections 3 and 6). -/

namespace Sys2Proof.Machine

/-- CTRL_R (R129). -/
def execCtrlR (s : State) : Host.Outcome State Fault Refusal := .next (latchRead s)

/-- MASK_R (R130). -/
def execMaskR (s : State) : Host.Outcome State Fault Refusal := .next (latchRead s)

/-- STATUS_R (R131): `vblank` is cleared outside the race window, `w` always. -/
def execStatusR (s : State) : Host.Outcome State Fault Refusal :=
  .next (endRead (statusByte s) { s with vblank := s.vblank && s.vblankStartDot, w := false })

/-- OAMADDR_R (R132). -/
def execOamAddrR (s : State) : Host.Outcome State Fault Refusal := .next (latchRead s)

/-- OAMDATA_R (R133): the address is not incremented. -/
def execOamDataR (s : State) : Host.Outcome State Fault Refusal := .next (endRead (oamRead s.oamAddr s) s)

/-- SCROLL_R (R134). -/
def execScrollR (s : State) : Host.Outcome State Fault Refusal := .next (latchRead s)

/-- ADDR_R (R135). -/
def execAddrR (s : State) : Host.Outcome State Fault Refusal := .next (latchRead s)

/-- The byte a data-port read returns, and the state with the read buffer refilled (R136): buffered below 0x3F00,
immediate in the palette range, where the buffer takes the nametable byte under the palette. -/
def readData (s : State) : Byte × State :=
  let a := dataAddr s.v
  let r := memRead a s
  if a ≤ 0x3EFF#14 then (s.readBuffer, { r.2 with readBuffer := r.1 })
  else (r.1, { r.2 with readBuffer := ntRead (a - 0x1000#14) r.2 })

/-- DATA_R (R136). -/
def execDataR (s : State) : Host.Outcome State Fault Refusal :=
  let r := readData s
  .next (endRead r.1 (dataIncrement r.2))

/-- POLL_NMI (R139): read and clear. -/
def execPollNmi (s : State) : Host.Outcome State Fault Refusal :=
  .next { s with nmiPending := false, result := .bit s.nmiPending }

/-- POLL_FRAME (R140): read and clear. -/
def execPollFrame (s : State) : Host.Outcome State Fault Refusal :=
  .next { s with frameComplete := false, result := .bit s.frameComplete }

end Sys2Proof.Machine
end

