-- ==== Sys2Proof/Machine/Reset.lean ====
section
/-! DEFINITION. The RESET transaction and the launch of a run (70_reset_and_hazards.md section 1). -/

namespace Sys2Proof.Machine

/-- The state RESET leaves (R280): every field of the block at its reset value but `chrFallback` and `fb`. The launch
parameters, the record of calls and the words still to come are no state of the block: no call is made (D41). -/
def resetState (s : State) : State :=
  { State.reset with
    chrFallback := s.chrFallback
    fb := s.fb
    params := s.params
    events := s.events
    issued := s.issued }

/-- RESET (R280). -/
def execReset (s : State) : Host.Outcome State Fault Refusal := .next (resetState s)

/-- The state at launch with these parameters and pattern-table contents (R11, R45, R282). -/
def launch (p : Params) (chr : Memory 8) : State := { State.reset with params := p, chrFallback := chr }

end Sys2Proof.Machine
end

