-- ==== Sys2Proof/Machine/Sprites.lean ====
section
/-! DEFINITION. The sprite unit: evaluation with its overflow bug, pattern fetch, buffer swap, the sprite pixel and the
OAM address effects of rendering (43_sprites.md). -/

namespace Sys2Proof.Machine

/-! Evaluation. -/

/-- `ResetEvaluation()` (R201). -/
def resetEvaluation (s : State) : State :=
  { s with evalN := 0, evalM := 0#2, evalFound := 0, evalSprite0 := false }

/-- `InRange(Y, h)` on a scanline (R204), the difference a signed integer. -/
def inRange (scanline : Nat) (y : Byte) (h : Nat) : Bool :=
  let diff : Int := ((scanline : Int) + 1) - ((y.toNat : Int) + 1)
  decide (0 ≤ diff ∧ diff < h)

/-- Byte `k` of OAM entry `n`, the index wrapped to 8 bits (R205, R208, R261). -/
def oamByte (n k : Nat) (s : State) : Byte := oamRead (BitVec.ofNat 8 (4 * n + k)) s

/-- The sprite height CTRL selects at this dot (R204, R212). -/
def currentHeight (s : State) : Nat := spriteHeight s.ctrl

/-- Copy the 4 bytes of OAM entry `n` into secondary-OAM slot `f` (R205). -/
def copySprite (n f : Nat) (s : State) : State :=
  secWrite (4 * f + 3) (oamByte n 3 s)
    (secWrite (4 * f + 2) (oamByte n 2 s)
      (secWrite (4 * f + 1) (oamByte n 1 s)
        (secWrite (4 * f) (oamByte n 0 s) s)))

/-- The entry under examination is in range on this line, at the height CTRL selects now (R204, R205). -/
def entryInRange (s : State) : Bool := inRange s.scanline (oamByte s.evalN 0 s) (currentHeight s)

/-- The normal evaluation step (R205, R206): an entry in range is copied to the next free slot. -/
def normalStep (s : State) : State :=
  { s with
    secOam := if entryInRange s then (copySprite s.evalN s.evalFound s).secOam else s.secOam
    evalSprite0 := s.evalSprite0 || (entryInRange s && s.evalN == 0)
    evalFound := if entryInRange s then s.evalFound + 1 else s.evalFound
    evalN := s.evalN + 1 }

/-- The buggy overflow step (R208, R209). -/
def buggyStep (s : State) : State :=
  { s with
    spriteOverflow := s.spriteOverflow || inRange s.scanline (oamByte s.evalN s.evalM.toNat s) (currentHeight s)
    evalN := s.evalN + 1
    evalM := s.evalM + 1#2 }

/-- `EvaluationStep()` (R203, R205, R207, R208): nothing once `evalN = 64`; the buggy mode is `evalFound = 8`. -/
def evaluationStep (s : State) : State :=
  if s.evalN < 64 then
    if s.evalFound < 8 then normalStep s
    else if s.evalFound = 8 then buggyStep s
    else s
  else s

/-- `FinalizeEvaluation()` (R210). -/
def finalizeEvaluation (s : State) : State :=
  { s with next := { s.next with count := s.evalFound, sprite0Slot := if s.evalSprite0 then some 0 else none } }

/-! Pattern fetch. -/

/-- The row of a sprite on a scanline before vertical flip: `((scanline - Y) mod 256) & (h - 1)` (R212). -/
def rawRow (scanline : Nat) (y : Byte) (h : Nat) : Nat :=
  (((scanline : Int) - (y.toNat : Int)) % 256).toNat &&& (h - 1)

/-- The row after vertical flip (R212). -/
def spriteRow (scanline : Nat) (y attr : Byte) (h : Nat) : Nat :=
  let row := rawRow scanline y h
  if flipsVertically attr then (h - 1) - row else row

/-- The low-plane address of a sprite row: R213 for 8 by 8 sprites, R215 for 8 by 16. -/
def spriteTileAddr (c tile : Byte) (row : Nat) : BusAddr :=
  if c.getLsbD 5 then
    let table : BusAddr := if tile.getLsbD 0 then 0x1000#14 else 0#14
    let tileNum := (tile &&& 0xFE#8) + (if row ≥ 8 then 1#8 else 0#8)
    patternAddr table tileNum (BitVec.ofNat 3 (row % 8))
  else patternAddr (spritePatternBase c) tile (BitVec.ofNat 3 (row % 8))

/-- `SpriteRowAddr(i)` (R212 to R215); a slot at or beyond `next.count` fetches tile 0xFF, row 0, without flip (R218). -/
def spriteRowAddr (i : Nat) (s : State) : BusAddr :=
  if i < s.next.count then
    spriteTileAddr s.ctrl (secRead (4 * i + 1) s)
      (spriteRow s.scanline (secRead (4 * i) s) (secRead (4 * i + 2) s) (currentHeight s))
  else spriteTileAddr s.ctrl 0xFF#8 0

/-- Replace slot `i` of a sprite buffer. -/
def setSlot (b : SpriteBuffer) (i : Nat) (sl : SpriteSlot) : SpriteBuffer :=
  { b with slots := b.slots.setIfInBounds i sl }

/-- The plane byte a slot keeps: bit-reversed when the sprite is flipped horizontally (R216, R217). -/
def slotPlane (attr b : Byte) : Byte := if flipsHorizontally attr then rev8 b else b

/-- The contents a slot is loaded with: transparent at or beyond `next.count` (R217). -/
def slotContents (i : Nat) (s : State) : SpriteSlot :=
  let attr := secRead (4 * i + 2) s
  let used := decide (i < s.next.count)
  { patLo := if used then slotPlane attr s.spLoLatch else 0#8
    patHi := if used then slotPlane attr s.spHiLatch else 0#8
    attr := attr
    xpos := secRead (4 * i + 3) s }

/-- `LoadSlot(i)` (R217). -/
def loadSlot (i : Nat) (s : State) : State := { s with next := setSlot s.next i (slotContents i s) }

/-- Fetch the low plane of slot `i` (R211, R214). -/
def fetchSpriteLow (i : Nat) (s : State) : State :=
  let r := memRead (spriteRowAddr i s) s
  { r.2 with spLoLatch := r.1 }

/-- Fetch the high plane of slot `i` (R211, R214). -/
def fetchSpriteHigh (i : Nat) (s : State) : State :=
  let r := memRead (highPlane (spriteRowAddr i s)) s
  { r.2 with spHiLatch := r.1 }

/-- Sub-step `k` of the fetch of slot `i` (R211). -/
def spriteFetchStep (i k : Nat) (s : State) : State :=
  match k with
  | 0 => dummyNametableRead s
  | 2 => dummyNametableRead s
  | 4 => fetchSpriteLow i s
  | 6 => fetchSpriteHigh i s
  | 7 => loadSlot i s
  | _ => s

/-- `SpriteFetchDot()` (R211). -/
def spriteFetchDot (s : State) : State := spriteFetchStep ((s.dot - 257) / 8) ((s.dot - 257) % 8) s

/-- `SwapBuffers()` (R219). -/
def swapBuffers (s : State) : State := { s with cur := s.next, next := s.cur }

/-! OAM address effects. -/

/-- One byte of the corruption copy (R224). -/
def copyOamByte (b : Byte) (k : Nat) (s : State) : State :=
  oamWrite (BitVec.ofNat 8 k) (oamRead (b + BitVec.ofNat 8 k) s) s

/-- `OamCorruptionCheck()` (R224): the 8 bytes at `oamAddr & 0xF8` go to OAM bytes 0 to 7. -/
def oamCorruptionCheck (s : State) : State :=
  if s.oamAddr ≥ 8#8 then
    let b := s.oamAddr &&& 0xF8#8
    (List.range 8).foldl (fun s k => copyOamByte b k s) s
  else s

/-- The OAM address effects on every active line: the corruption check at pre-render dot 257, then the clear of
dots 257 to 320 (R200, R223, R224). -/
def oamAddressDot (s : State) : State :=
  let s := if s.scanline = preRender s ∧ s.dot = 257 then oamCorruptionCheck s else s
  if 257 ≤ s.dot ∧ s.dot ≤ 320 then { s with oamAddr := 0#8 } else s

/-- The evaluation work of a dot of a visible active line (R200 to R203, R210). -/
def evaluationDot (s : State) : State :=
  let d := s.dot
  if d = 0 then resetEvaluation s
  else if 1 ≤ d ∧ d ≤ 64 ∧ d % 2 = 1 then secWrite ((d - 1) / 2) 0xFF#8 s
  else if 65 ≤ d ∧ d ≤ 255 ∧ d % 2 = 1 then evaluationStep s
  else if d = 256 then finalizeEvaluation s
  else s

/-- The fetch and swap work of a dot of a visible active line (R200, R211, R219). -/
def spriteBufferDot (s : State) : State :=
  if 257 ≤ s.dot ∧ s.dot ≤ 320 then spriteFetchDot s
  else if s.dot = 321 then swapBuffers s
  else s

/-- `SpriteDot()` (R200). The dot ranges of a visible line exclude each other. -/
def spriteDot (s : State) : State :=
  let s := oamAddressDot s
  if visible s.scanline then spriteBufferDot (evaluationDot s) else s

/-! The sprite pixel. -/

/-- An opaque sprite pixel (R220). -/
structure SpritePixel where
  /-- The palette index, 17 to 31. -/
  index : BitVec 5
  slot : Nat
  /-- In front of the background. -/
  fg : Bool
  deriving DecidableEq, Repr, Inhabited

/-- The opaque pixel slot `i` gives at column `sx`, if any (R220): `col` is a signed integer. -/
def slotPixel (offset sx i : Nat) (sl : SpriteSlot) : Option SpritePixel :=
  let col : Int := (sx : Int) - ((sl.xpos.toNat : Int) - (offset : Int))
  if 0 ≤ col ∧ col ≤ 7 then
    let b := 7 - col.toNat
    let p := BitVec.ofBool (sl.patHi.getLsbD b) ++ BitVec.ofBool (sl.patLo.getLsbD b)
    if p = 0#2 then none
    else some {
      index := 16#5 + 4#5 * (spritePalette sl.attr).setWidth 5 + p.setWidth 5
      slot := i
      fg := spriteInFront sl.attr }
  else none

/-- The first slot of a list, numbered from `i`, with an opaque pixel (R220, R222). -/
def firstOpaque (offset sx : Nat) : Nat → List SpriteSlot → Option SpritePixel
  | _, [] => none
  | i, sl :: rest =>
    match slotPixel offset sx i sl with
    | some p => some p
    | none => firstOpaque offset sx (i + 1) rest

/-- `SpritePixel(sx, showLeft)` (R220). -/
def spritePixel (sx : Nat) (showLeft : Bool) (s : State) : Option SpritePixel :=
  if !showLeft && decide (sx < 8) then none
  else firstOpaque s.params.spriteXOffset sx 0 (s.cur.slots.toList.take s.cur.count)

end Sys2Proof.Machine
end

