-- ==== Sys2Proof/Machine/Compositor.lean ====
section
/-! DEFINITION. The compositor and the frame-buffer writer (44_compositor.md). -/

namespace Sys2Proof.Machine

/-- `BgPixelGated(xp)` (R242). -/
def bgPixelGated (xp : Nat) (s : State) : BitVec 5 :=
  if !showBackground s.mask || (decide (xp < 8) && !showLeftBackground s.mask) then 0#5 else bgPixel s

/-- `SpritePixelGated(xp)` (R243). -/
def spritePixelGated (xp : Nat) (s : State) : Option SpritePixel :=
  if showSprites s.mask then spritePixel xp (showLeftSprites s.mask) s else none

/-- `Priority(bg, sp)` (R245). -/
def priority (bg : BitVec 5) (sp : Option SpritePixel) : BitVec 5 :=
  match sp with
  | some p => if p.fg || bg == 0#5 then p.index else bg
  | none => bg

/-- The sprite-0 hit condition (R244): the winning sprite pixel is OAM sprite 0's and the gated background is opaque. -/
def sprite0Hits (xp : Nat) (s : State) : Bool :=
  match spritePixelGated xp s with
  | some p => s.cur.sprite0Slot.map Fin.val == some p.slot && bgPixelGated xp s != 0#5
  | none => false

/-- The palette index of a pixel (R240, R249): entry 0 with rendering disabled. -/
def pixelIndex (xp : Nat) (s : State) : BitVec 5 :=
  if renderingEnabled s then priority (bgPixelGated xp s) (spritePixelGated xp s) else 0#5

/-- The colour index of a pixel, after grayscale (R246, R247). -/
def pixelColour (xp : Nat) (s : State) : ColourIndex :=
  let ci := palEntry (pixelIndex xp s) s
  if grayscale s.mask then ci &&& 0x30#6 else ci

/-- EMPHASIS_TINT (R248): the identity on field 0, open elsewhere (log entry 4). -/
def emphasisTint (e : BitVec 3) (c : Rgb) : Rgb := if e = 0#3 then c else Config.tintNonzero e c

/-- The colour of a pixel (R248). -/
def pixelRgb (xp : Nat) (s : State) : Rgb :=
  emphasisTint (emphasisField s.mask) (Config.systemPalette (pixelColour xp s))

/-- Sprite-0 hit is looked at only with rendering enabled (R240, R249). -/
def updateSprite0Hit (xp : Nat) (s : State) : State :=
  if renderingEnabled s && sprite0Hits xp s then { s with sprite0Hit := true } else s

/-- `ComposePixel()` (R240): column `dot - 1` of row `scanline` (R251). -/
def composePixel (s : State) : State :=
  let xp := s.dot - 1
  setPixel xp s.scanline (pixelRgb xp s) (updateSprite0Hit xp s)

end Sys2Proof.Machine
end

