-- ==== Sys2Proof/Machine/Timing.lean ====
section
/-! DEFINITION. TICK: the timing advance, the VBlank transitions and the per-dot order (41_timing.md). -/

namespace Sys2Proof.Machine

/-- The odd-frame skip is taken by the next advance (R151). -/
def skipsDot (s : State) : Bool :=
  s.params.oddFrameSkip && s.oddFrame && renderingEnabled s && s.scanline == preRender s && s.dot == 339

/-- `AdvanceTiming()` (R151). -/
def advanceTiming (s : State) : State :=
  let s := { s with totalCycles := s.totalCycles + 1#64 }
  if skipsDot s then { s with dot := 0, scanline := 0, oddFrame := !s.oddFrame }
  else if s.dot + 1 = 341 then
    if s.scanline + 1 > preRender s then { s with dot := 0, scanline := 0, oddFrame := !s.oddFrame }
    else { s with dot := 0, scanline := s.scanline + 1 }
  else { s with dot := s.dot + 1 }

/-- The suppressor clear and VBlank entry and exit of a TICK (R150, R154, R155, R157). -/
def vblankTransitions (s : State) : State :=
  let s := { s with vblankStartDot := false }
  let s := if s.scanline = 241 ∧ s.dot = 1 then enterVBlank s else s
  if s.scanline = preRender s - 1 ∧ s.dot = 340 then exitVBlank s else s

/-- The pixel of a visible dot (R150, R240, R251). -/
def composeDot (s : State) : State :=
  if visible s.scanline = true ∧ 1 ≤ s.dot ∧ s.dot ≤ 256 then composePixel s else s

/-- The rendering sub-steps of a dot of an active line (R150). -/
def renderDot (s : State) : State :=
  if activeLine s then spriteDot (backgroundDot s) else s

/-- The state after one TICK (R150, R160): the sub-steps in their order, then the result `oddFrame`. -/
def tickState (s : State) : State :=
  let s := renderDot (composeDot (vblankTransitions (advanceTiming s)))
  { s with result := .bit s.oddFrame }

/-- TICK (R150). -/
def execTick (s : State) : Host.Outcome State Fault Refusal := .next (tickState s)

end Sys2Proof.Machine
end

