-- ==== Sys2Proof/Machine/Dispatch.lean ====
section
/-! DEFINITION. The dispatch: one arm per transaction. -/

namespace Sys2Proof.Machine

/-- The meaning of each transaction (R105). -/
def exec (i : Instr) (s : State) : Host.Outcome State Fault Refusal :=
  match i with
  | .ctrlW d => Sys2Proof.Machine.execCtrlW d s
  | .maskW d => Sys2Proof.Machine.execMaskW d s
  | .statusW d => Sys2Proof.Machine.execStatusW d s
  | .oamAddrW d => Sys2Proof.Machine.execOamAddrW d s
  | .oamDataW d => Sys2Proof.Machine.execOamDataW d s
  | .scrollW d => Sys2Proof.Machine.execScrollW d s
  | .addrW d => Sys2Proof.Machine.execAddrW d s
  | .dataW d => Sys2Proof.Machine.execDataW d s
  | .ctrlR => Sys2Proof.Machine.execCtrlR s
  | .maskR => Sys2Proof.Machine.execMaskR s
  | .statusR => Sys2Proof.Machine.execStatusR s
  | .oamAddrR => Sys2Proof.Machine.execOamAddrR s
  | .oamDataR => Sys2Proof.Machine.execOamDataR s
  | .scrollR => Sys2Proof.Machine.execScrollR s
  | .addrR => Sys2Proof.Machine.execAddrR s
  | .dataR => Sys2Proof.Machine.execDataR s
  | .tick => Sys2Proof.Machine.execTick s
  | .reset => Sys2Proof.Machine.execReset s
  | .pollNmi => Sys2Proof.Machine.execPollNmi s
  | .pollFrame => Sys2Proof.Machine.execPollFrame s

end Sys2Proof.Machine
end

