-- ==== Sys2Proof/Machine/Step.lean ====
section
/-! DEFINITION. One step: the block takes the oldest operation word the driving processor has issued and applies it. -/

namespace Sys2Proof.Machine

/-- One step (R9, R10): the oldest issued word is decoded and applied to completion. A word that spells no transaction is
refused (R106, R262). With nothing issued the block keeps all its state (R278). -/
def step (s : State) : Host.Outcome State Fault Refusal :=
  match s.issued with
  | [] => .next s
  | word :: rest =>
    match decode word with
    | .ok i => exec i { s with issued := rest }
    | .error why => .refused (.illegalWord word why)

/-- The state with the word of an opcode-table row issued next, before whatever is already issued. -/
def State.withFetchWord (s : State) (nbits w : Nat) : State := { s with issued := tableWord nbits w :: s.issued }

end Sys2Proof.Machine
end

