-- ==== Sys2Proof/Machine/Observe.lean ====
section
/-! DEFINITION. The side-effect-free observations (R141): pure functions of the state, no transactions. -/

namespace Sys2Proof.Machine

/-- `scanline()`. -/
def observeScanline (s : State) : Nat := s.scanline

/-- `dot()`. -/
def observeDot (s : State) : Nat := s.dot

/-- `totalCycles()`. -/
def observeTotalCycles (s : State) : BitVec 64 := s.totalCycles

/-- `preRenderScanline()`. -/
def observePreRenderScanline (s : State) : Nat := preRender s

end Sys2Proof.Machine
end

