-- ==== Sys2Proof/Machine/Transcript.lean ====
section
/-! DEFINITION. Transcripts: the transactions of a line (R103, R104), and applying transactions in issue order (R9). -/

namespace Sys2Proof.Machine

/-- The position within a frame, in dots from `(0, 0)` (R159). -/
def frameOffset (scanline dot : Nat) : Nat := 341 * scanline + dot

/-- The TICKs of a frame without a skip (R159). -/
def fullFrame (s : State) : Nat := 341 * (preRender s + 1)

/-- The current frame ends with the skip of R151, if nothing is written before its end and the skipping dot is still to
come. -/
def frameWillSkip (s : State) : Bool :=
  s.params.oddFrameSkip && s.oddFrame && renderingEnabled s && decide (frameOffset s.scanline s.dot < fullFrame s - 1)

/-- The TICKs of the current frame (R159). -/
def frameLength (s : State) : Nat := if frameWillSkip s then fullFrame s - 1 else fullFrame s

/-- The `k` of RUNTO: the number of TICKs after which the position is `(sl, d)` (R104). -/
def ticksTo (sl d : Nat) (s : State) : Nat :=
  let here := frameOffset s.scanline s.dot
  let there := frameOffset sl d
  if here ≤ there ∧ there < frameLength s then there - here else frameLength s - here + there

/-- An immediate operand as a byte. -/
def immByte (n : Nat) : Byte := BitVec.ofNat 8 n

/-- `SETADDR a` (R104). -/
def setAddrInstrs (a : Nat) : List Instr := [.addrW (immByte (a / 256)), .addrW (immByte a)]

/-- The transactions of a transcript line at a state, which only RUNTO looks at (R103, R104). -/
def lineInstrs (s : State) : Line → List Instr
  | .write r imm => [writeInstr r (immByte imm)]
  | .read r => [readInstr r]
  | .tick => [.tick]
  | .reset => [.reset]
  | .pollNmi => [.pollNmi]
  | .pollFrame => [.pollFrame]
  | .ticks n => List.replicate n .tick
  | .setAddr a => setAddrInstrs a
  | .setScroll sx sy => [.scrollW (immByte sx), .scrollW (immByte sy)]
  | .rstw => [.statusR]
  | .put a bytes => setAddrInstrs a ++ bytes.map (fun b => .dataW (immByte b))
  | .oamPut i bytes => .oamAddrW (immByte i) :: bytes.map (fun b => .oamDataW (immByte b))
  | .runTo sl d => List.replicate (ticksTo sl d s) .tick

/-- Apply transactions one at a time, in issue order (R9), stopping at the first that does not answer a next state. -/
def runInstrs : List Instr → State → Host.Outcome State Fault Refusal
  | [], s => .next s
  | i :: rest, s =>
    match exec i s with
    | .next t => runInstrs rest t
    | .fault r => .fault r
    | .refused r => .refused r

/-- Apply the lines of a transcript in order. -/
def runLines : List Line → State → Host.Outcome State Fault Refusal
  | [], s => .next s
  | l :: rest, s =>
    match runInstrs (lineInstrs s l) s with
    | .next t => runLines rest t
    | .fault r => .fault r
    | .refused r => .refused r

/-- The operation words of transactions issued after whatever is already issued (R9). -/
def issue (is : List Instr) (s : State) : State := { s with issued := s.issued ++ is.map encode }

end Sys2Proof.Machine
end

