-- ==== Sys2Proof/Safety.lean ====
section
/-! DEFINITION. What a safe run is, in the terms the statements use: an answer that is a next state, and the invariants of
the state. -/

namespace Sys2Proof.Machine

/-- A step is safe if it answers a next state. No step faults (R260); a refused word stops the run (R106). -/
def Completes (o : Host.Outcome State Fault Refusal) : Prop := ∃ t, o = .next t

/-- The word matches a row of the opcode map, written from R106: class 0 to 5, `z = 0`, no data in a read, bits 11..0 zero
in classes 2 to 5. -/
def legalWord (word : OpWord) : Bool :=
  decide (word.toNat / 4096 ≤ 5) && decide (word.toNat / 2048 % 2 = 0) &&
    (word.toNat / 4096 != 1 || word.toNat % 256 == 0) && (decide (word.toNat / 4096 ≤ 1) || word.toNat % 4096 == 0)

/-- The position of the sequencer is a position of the frame (R22, R23). -/
def PositionInv (s : State) : Prop := s.scanline ≤ preRender s ∧ s.dot ≤ 340

/-- The position lies from VBlank entry up to the dot before VBlank exit (R155, R157). -/
def InVBlankWindow (s : State) : Prop :=
  frameOffset 241 1 ≤ frameOffset s.scanline s.dot ∧
    frameOffset s.scanline s.dot < frameOffset (preRender s - 1) 340

/-- The status flags agree with the position: the phase is VBlank exactly in the window (R32), `vblank` and `nmiPending`
are set only there (R155, R157), and the race suppressor only on the entry dot, with `vblank` set (R31). -/
def StatusInv (s : State) : Prop :=
  (s.inVBlank = true ↔ InVBlankWindow s) ∧ (s.vblank = true → s.inVBlank = true) ∧
    (s.nmiPending = true → s.inVBlank = true) ∧
    (s.vblankStartDot = true → s.scanline = 241 ∧ s.dot = 1 ∧ s.vblank = true)

/-- A sprite buffer holds at most 8 sprites, and sprite 0 only in a used slot 0 (R51, R206). -/
def BufferInv (b : SpriteBuffer) : Prop :=
  b.count ≤ 8 ∧ (b.sprite0Slot = none ∨ (b.sprite0Slot = some 0 ∧ 0 < b.count))

/-- The evaluation counters stay in their ranges (R50): no more sprites are found than examined, the byte offset moves only
in the buggy mode (R207), and sprite 0 is among those found (R206). -/
def EvaluationInv (s : State) : Prop :=
  s.evalN ≤ 64 ∧ s.evalFound ≤ 8 ∧ s.evalFound ≤ s.evalN ∧ (s.evalFound < 8 → s.evalM = 0) ∧
    (s.evalSprite0 = true → 0 < s.evalFound)

/-- Attribute bytes of OAM read with bits 4..2 clear (R48). -/
def OamInv (s : State) : Prop := ∀ i : Byte, i.toNat % 4 = 2 → oamRead i s &&& 0x1C = 0

/-- Every memory keeps its canonical form and its size (R43 to R45, R48, R49, R52). -/
def MemoryInv (s : State) : Prop :=
  (s.ntRam.wf = true ∧ cellsBelow (ntSize s.params.mirroring) s.ntRam = true) ∧
    (s.palRam.wf = true ∧ cellsBelow 32 s.palRam = true) ∧
    (s.chrFallback.wf = true ∧ cellsBelow 8192 s.chrFallback = true) ∧
    (s.oam.wf = true ∧ cellsBelow 256 s.oam = true) ∧
    (s.secOam.wf = true ∧ cellsBelow 32 s.secOam = true) ∧
    (risingCells s.fb = true ∧ cellsBelow 61440 s.fb = true)

/-- Every pixel the beam has passed in the current frame has a value (R252, R253). -/
def RasterInv (s : State) : Prop :=
  ∀ x y, x < 256 → y < 240 → (y < s.scanline ∨ (y = s.scanline ∧ x < s.dot)) → pixelAt x y s ≠ none

/-- The invariant of the machine. -/
def StateInv (s : State) : Prop :=
  PositionInv s ∧ StatusInv s ∧ EvaluationInv s ∧ BufferInv s.cur ∧ BufferInv s.next ∧ OamInv s ∧ MemoryInv s

end Sys2Proof.Machine
end

