-- ==== Sys2Proof/Certificates/Slice0/Obligations.lean ====
section
/-! DEFINITION. The statements for the provers, one per group of numbered rules of the spec. -/

open Sys2Proof Sys2Proof.Machine

/-! ## Encoding and the step -/

/-- R90, R93, R105: decoding the word of an instruction gives the instruction back, with every operand. -/
def Obligations.DecodeEncodeRoundTrip : Prop := ∀ i : Instr, decode (encode i) = .ok i

/-- R105: a word that decodes is the word of the instruction it decodes to, so no instruction has a second spelling. -/
def Obligations.EncodeDecodeRoundTrip : Prop := ∀ (word : OpWord) (i : Instr), decode word = .ok i → encode i = word

/-- The words of 95_test_vectors.md section 2.1 decode as the table there says (R105, R106). -/
def Obligations.DecodeSampleWords : Prop :=
  (decode 0x0000 = .ok (.ctrlW 0x00) ∧ decode 0x07FF = .ok (.dataW 0xFF) ∧ decode 0x1200 = .ok .statusR ∧
    decode 0x2000 = .ok .tick ∧ decode 0x3000 = .ok .reset ∧ decode 0x4000 = .ok .pollNmi ∧
    decode 0x5000 = .ok .pollFrame) ∧
  (decode 0x0800 = .error .reservedBit ∧ decode 0x0FFF = .error .reservedBit ∧
    decode 0x1001 = .error .readWithData ∧ decode 0x17FF = .error .readWithData ∧
    decode 0x2001 = .error .operandBits ∧ decode 0x2100 = .error .operandBits ∧
    decode 0x3800 = .error .reservedBit ∧ decode 0x6000 = .error .reservedClass ∧
    decode 0xF000 = .error .reservedClass)

/-- R9, R278: a step takes the oldest issued word and applies the transaction it spells; with nothing issued the block
keeps all its state. The queue of issued words is the model's own (log entry 1). -/
def Obligations.StepRunsIssuedWord : Prop :=
  ∀ s : State,
    (∀ (word : OpWord) (rest : List OpWord) (i : Instr), s.issued = word :: rest → decode word = .ok i →
      step s = exec i { s with issued := rest }) ∧
    (s.issued = [] → step s = .next s)

/-- R106: a step refuses exactly the words that match no row of the opcode map, and every other word runs. -/
def Obligations.ReservedWordsAreRefused : Prop :=
  ∀ (s : State) (word : OpWord) (rest : List OpWord), s.issued = word :: rest →
    (legalWord word = false → ∃ why, step s = .refused (.illegalWord word why)) ∧
    (legalWord word = true → ∃ t, step s = .next t)

/-- R138, R260, R296: every transaction completes at every state. That it leaves the launch parameters and the words still
issued is the model's own choice (log entries 1 and 2). -/
def Obligations.EveryTransactionCompletes : Prop :=
  ∀ (i : Instr) (s : State), ∃ t, exec i s = .next t ∧ t.params = s.params ∧ t.issued = s.issued

/-! ## Register writes -/

/- Every transaction leaves its result (R90, R91) in the model's own field `result` (log entry 5); where a statement names that
field, `events`, `params` or `issued`, it names the model's own way of holding what the spec describes (log entries 1 to 5). -/

/-- R121: CTRL_W stores the byte and copies its two low bits to `t[11:10]`; all else is unchanged. -/
def Obligations.CtrlWriteResult : Prop :=
  ∀ (d : Byte) (s : State), ∃ t' : LoopyAddr,
    exec (.ctrlW d) s = .next { s with ctrl := d, t := t', ioLatch := d, result := .nothing } ∧
    t'.getLsbD 10 = d.getLsbD 0 ∧ t'.getLsbD 11 = d.getLsbD 1 ∧
    ∀ k, k ≠ 10 → k ≠ 11 → t'.getLsbD k = s.t.getLsbD k

/-- R122, R123, R124: MASK_W, STATUS_W and OAMADDR_W; all else is unchanged. -/
def Obligations.MaskStatusOamAddrWriteResults : Prop :=
  ∀ (d : Byte) (s : State),
    exec (.maskW d) s = .next { s with mask := d, ioLatch := d, result := .nothing } ∧
    exec (.statusW d) s = .next { s with ioLatch := d, result := .nothing } ∧
    exec (.oamAddrW d) s = .next { s with oamAddr := d, ioLatch := d, result := .nothing }

/-- R125: on an active line OAMDATA_W stores nothing and adds 4 to the address; elsewhere it stores at `oamAddr`, an
attribute byte losing bits 4..2, and adds 1. Every other OAM byte and every other field is unchanged. -/
def Obligations.OamDataWriteResult : Prop :=
  ∀ (d : Byte) (s : State),
    (activeLine s = true →
      exec (.oamDataW d) s = .next { s with oamAddr := s.oamAddr + 4, ioLatch := d, result := .nothing }) ∧
    (activeLine s = false → ∃ t, exec (.oamDataW d) s = .next t ∧
      t = { s with oam := t.oam, oamAddr := s.oamAddr + 1, ioLatch := d, result := .nothing } ∧
      ∀ a : Byte, oamRead a t =
        if a = s.oamAddr then (if s.oamAddr.toNat % 4 = 2 then d &&& 0xE3 else d) else oamRead a s)

/-- R126 with R98: the half of the scroll position that `w` selects; all else is unchanged. -/
def Obligations.ScrollWriteResult : Prop :=
  ∀ (d : Byte) (s : State),
    (s.w = false → ∃ t' : LoopyAddr,
      exec (.scrollW d) s =
        .next { s with t := t', x := d.extractLsb' 0 3, w := true, ioLatch := d, result := .nothing } ∧
      t'.extractLsb' 0 5 = d.extractLsb' 3 5 ∧ t'.extractLsb' 5 10 = s.t.extractLsb' 5 10) ∧
    (s.w = true → ∃ t' : LoopyAddr,
      exec (.scrollW d) s = .next { s with t := t', w := false, ioLatch := d, result := .nothing } ∧
      t'.extractLsb' 12 3 = d.extractLsb' 0 3 ∧ t'.extractLsb' 5 5 = d.extractLsb' 3 5 ∧
      t'.extractLsb' 0 5 = s.t.extractLsb' 0 5 ∧ t'.extractLsb' 10 2 = s.t.extractLsb' 10 2)

/-- R127 with R99: the half of the address that `w` selects; the second half loads `v` and, off active lines, places the
address on the bus and notifies an attached mapper of a change (R73). All else is unchanged. -/
def Obligations.AddrWriteResult : Prop :=
  ∀ (d : Byte) (s : State),
    (s.w = false → ∃ t' : LoopyAddr,
      exec (.addrW d) s = .next { s with t := t', w := true, ioLatch := d, result := .nothing } ∧
      t'.extractLsb' 8 6 = d.extractLsb' 0 6 ∧ t'.getLsbD 14 = false ∧
      t'.extractLsb' 0 8 = s.t.extractLsb' 0 8) ∧
    (s.w = true → ∃ t' : LoopyAddr, t'.extractLsb' 0 8 = d ∧ t'.extractLsb' 8 7 = s.t.extractLsb' 8 7 ∧
      (activeLine s = true →
        exec (.addrW d) s = .next { s with t := t', v := t', w := false, ioLatch := d, result := .nothing }) ∧
      (activeLine s = false →
        exec (.addrW d) s = .next { s with
          t := t', v := t', w := false, ioLatch := d, result := .nothing, busAddr := t'.extractLsb' 0 14,
          events := if t'.extractLsb' 0 14 ≠ s.busAddr ∧ s.params.mapperAttached = true
            then .addressBusChanged (t'.extractLsb' 0 14) :: s.events else s.events }))

/-- R128 with R62, R70: DATA_W stores at `v & 0x3FFF`: in the nametables, in the palette (6 bits), in the fallback buffer, or
through the mapper, by the one write call it makes. Every other byte of every memory reads as before, and every other field
is unchanged. The order of its calls is `DataPortIncrement`'s. -/
def Obligations.DataWriteStores : Prop :=
  ∀ (d : Byte) (s : State) (a : BusAddr), a = s.v.extractLsb' 0 14 → ∃ t calls, exec (.dataW d) s = .next t ∧
    t = { s with v := t.v, busAddr := t.busAddr, events := calls ++ s.events, ntRam := t.ntRam, palRam := t.palRam,
                 chrFallback := t.chrFallback, ioLatch := d, result := .nothing } ∧
    (∀ b : BusAddr, ntRead b t =
      if 0x2000 ≤ a.toNat ∧ a.toNat ≤ 0x3EFF ∧
          ntIndex s.params.mirroring (b.extractLsb' 0 12) = ntIndex s.params.mirroring (a.extractLsb' 0 12)
        then d else ntRead b s) ∧
    (∀ i : BitVec 5, palRead i t =
      if 0x3F00 ≤ a.toNat ∧ palIndex i = palIndex (a.extractLsb' 0 5) then d &&& 0x3F else palRead i s) ∧
    (∀ n : Nat, t.chrFallback.read n =
      if a.toNat ≤ 0x1FFF ∧ s.params.mapperAttached = false ∧ n = a.toNat then d else s.chrFallback.read n) ∧
    (∀ b c, Event.writeChr b c ∈ calls ↔
      a.toNat ≤ 0x1FFF ∧ s.params.mapperAttached = true ∧ b = a ∧ c = d) ∧
    ∀ b c, Event.readChr b c ∉ calls

/-- R137 with R62, R70, R73: after DATA_R and DATA_W, `v` takes the rendering glitch on an active line, and elsewhere the CTRL
increment masked to 14 bits. The calls an attached mapper gets are exactly these, in this order: the access address when it
is not on the bus, the pattern-table read or write, and off active lines the new `v`. The record of calls is log entry 3's. -/
def Obligations.DataPortIncrement : Prop :=
  ∀ (i : Instr) (s : State) (a : BusAddr), a = s.v.extractLsb' 0 14 → (i = .dataR ∨ ∃ d, i = .dataW d) →
    ∃ t placed accessed, exec i s = .next t ∧
    placed = (if a ≠ s.busAddr ∧ s.params.mapperAttached = true then .addressBusChanged a :: s.events
      else s.events) ∧
    ((0x1FFF < a.toNat ∨ s.params.mapperAttached = false) → accessed = placed) ∧
    (a.toNat ≤ 0x1FFF → s.params.mapperAttached = true →
      (i = .dataR → accessed = .readChr a t.readBuffer :: placed) ∧
      (∀ d, i = .dataW d → accessed = .writeChr a d :: placed)) ∧
    (activeLine s = true →
      t.v = incFineY (incCoarseX s.v) ∧ t.busAddr = a ∧ t.events = accessed) ∧
    (activeLine s = false →
      t.v = (s.v + if s.ctrl.getLsbD 2 then 32 else 1) &&& 0x3FFF ∧ t.busAddr = t.v.extractLsb' 0 14 ∧
      t.events = if s.params.mapperAttached = true then .addressBusChanged t.busAddr :: accessed else accessed)

/-! ## Register reads and polls -/

/-- R129, R130, R132, R134, R135: a read of a write-only offset returns the I/O latch and changes nothing. -/
def Obligations.WriteOnlyReadsReturnLatch : Prop :=
  ∀ (i : Instr) (s : State), i ∈ [Instr.ctrlR, .maskR, .oamAddrR, .scrollR, .addrR] →
    exec i s = .next { s with result := .byte s.ioLatch }

/-- R131 with R96: the status byte; `vblank` is cleared outside the race window, `w` always; all else is unchanged. -/
def Obligations.StatusReadResult : Prop :=
  ∀ s : State, ∃ b : Byte,
    exec .statusR s = .next { s with
      vblank := if s.vblankStartDot then s.vblank else false, w := false, ioLatch := b, result := .byte b } ∧
    b.getLsbD 7 = s.vblank ∧ b.getLsbD 6 = s.sprite0Hit ∧ b.getLsbD 5 = s.spriteOverflow ∧
    b.extractLsb' 0 5 = s.ioLatch.extractLsb' 0 5

/-- R133: the OAM byte at `oamAddr`, which is not incremented; with the OAM invariant (R48) an attribute byte reads with
bits 4..2 clear. -/
def Obligations.OamDataReadResult : Prop :=
  ∀ s : State, ∃ b : Byte,
    exec .oamDataR s = .next { s with ioLatch := b, result := .byte b } ∧ b = oamRead s.oamAddr s ∧
    (OamInv s → s.oamAddr.toNat % 4 = 2 → b &&& 0x1C = 0)

/-- R136: the buffered read below 0x3F00 and the immediate palette read, with the buffer's new contents; with a mapper the
one read call answers a pattern-table read. Every field but those and the increment's is unchanged. The order of its calls is
`DataPortIncrement`'s. -/
def Obligations.DataReadResult : Prop :=
  ∀ (s : State) (a : BusAddr), a = s.v.extractLsb' 0 14 → ∃ t b calls, exec .dataR s = .next t ∧
    t = { s with v := t.v, busAddr := t.busAddr, events := calls ++ s.events, readBuffer := t.readBuffer,
                 ioLatch := b, result := .byte b } ∧
    (a.toNat ≤ 0x3EFF → b = s.readBuffer) ∧
    (0x3F00 ≤ a.toNat → b = palRead (a.extractLsb' 0 5) s ∧ t.readBuffer = ntRead (a - 0x1000) s) ∧
    (0x2000 ≤ a.toNat → a.toNat ≤ 0x3EFF → t.readBuffer = ntRead a s) ∧
    (a.toNat ≤ 0x1FFF → s.params.mapperAttached = false → t.readBuffer = s.chrFallback.read a.toNat) ∧
    (∀ b c, Event.readChr b c ∈ calls ↔
      a.toNat ≤ 0x1FFF ∧ s.params.mapperAttached = true ∧ b = a ∧ c = t.readBuffer) ∧
    ∀ b c, Event.writeChr b c ∉ calls

/-- R139, R140: the polls read and clear their flag; all else is unchanged. -/
def Obligations.PollResults : Prop :=
  ∀ s : State,
    exec .pollNmi s = .next { s with nmiPending := false, result := .bit s.nmiPending } ∧
    exec .pollFrame s = .next { s with frameComplete := false, result := .bit s.frameComplete }

/-! ## Reset -/

/-- R280: RESET zeroes every field but `chrFallback` and `fb`, and makes no call. That the issued words, the launch parameters
and the record of calls are kept, and that there is no result, are the model's own choices (log entries 1, 2, 3 and 5). -/
def Obligations.ResetResult : Prop :=
  ∀ s : State, ∃ t, exec .reset s = .next t ∧
    (t.scanline = 0 ∧ t.dot = 0 ∧ t.totalCycles = 0 ∧ t.oddFrame = false) ∧
    (t.vblank = false ∧ t.sprite0Hit = false ∧ t.spriteOverflow = false ∧ t.nmiPending = false ∧
      t.frameComplete = false ∧ t.vblankStartDot = false ∧ t.inVBlank = false) ∧
    (t.ctrl = 0 ∧ t.mask = 0 ∧ t.v = 0 ∧ t.t = 0 ∧ t.x = 0 ∧ t.w = false) ∧
    (t.oamAddr = 0 ∧ t.ioLatch = 0 ∧ t.readBuffer = 0 ∧ t.busAddr = 0) ∧
    (∀ a, t.ntRam.read a = 0 ∧ t.palRam.read a = 0 ∧ t.oam.read a = 0 ∧ t.secOam.read a = 0) ∧
    (t.ntLatch = 0 ∧ t.atLatch = 0 ∧ t.ptLoLatch = 0 ∧ t.ptHiLatch = 0) ∧
    (t.bgPatLo = 0 ∧ t.bgPatHi = 0 ∧ t.bgAttrLo = 0 ∧ t.bgAttrHi = 0) ∧
    (t.evalN = 0 ∧ t.evalM = 0 ∧ t.evalFound = 0 ∧ t.evalSprite0 = false) ∧
    (t.cur.count = 0 ∧ t.cur.sprite0Slot = none ∧ t.next.count = 0 ∧ t.next.sprite0Slot = none) ∧
    (∀ i : Fin 8, t.cur.slots[i] = ⟨0, 0, 0, 0⟩ ∧ t.next.slots[i] = ⟨0, 0, 0, 0⟩) ∧
    (t.spLoLatch = 0 ∧ t.spHiLatch = 0 ∧ t.result = .nothing) ∧
    (t.chrFallback = s.chrFallback ∧ t.fb = s.fb ∧ t.events = s.events ∧ t.params = s.params ∧
      t.issued = s.issued)

/-- R281, R282: power-on is RESET, with no pixel written: RESET at the reset state changes nothing, the first TICK moves to
`(0, 1)` and composes pixel `(0, 0)`. -/
def Obligations.PowerOnIsReset : Prop :=
  exec .reset State.reset = .next State.reset ∧ (∀ x y, pixelAt x y State.reset = none) ∧
    ∃ t, exec .tick State.reset = .next t ∧ t.scanline = 0 ∧ t.dot = 1 ∧ pixelAt 0 0 t ≠ none ∧
      t.result = .bit false

/-! ## TICK: timing and status -/

/-- R151, R160, R24: the timing advance with the odd-frame skip, and the result of TICK. -/
def Obligations.TickAdvancesTiming : Prop :=
  ∀ (s : State) (skip : Bool),
    skip = (s.params.oddFrameSkip && s.oddFrame && (s.mask.getLsbD 3 || s.mask.getLsbD 4) &&
      (s.scanline == preRender s) && (s.dot == 339)) →
    ∃ t, exec .tick s = .next t ∧ t.totalCycles = s.totalCycles + 1 ∧ t.result = .bit t.oddFrame ∧
      (skip = true → t.scanline = 0 ∧ t.dot = 0 ∧ t.oddFrame = !s.oddFrame) ∧
      (skip = false → s.dot ≠ 340 → t.scanline = s.scanline ∧ t.dot = s.dot + 1 ∧ t.oddFrame = s.oddFrame) ∧
      (skip = false → s.dot = 340 → s.scanline < preRender s →
        t.scanline = s.scanline + 1 ∧ t.dot = 0 ∧ t.oddFrame = s.oddFrame) ∧
      (skip = false → s.dot = 340 → preRender s ≤ s.scanline →
        t.scanline = 0 ∧ t.dot = 0 ∧ t.oddFrame = !s.oddFrame)

/-- R154, R155, R157: VBlank entry and exit by the dot reached, and no other change of the VBlank flags. -/
def Obligations.TickVBlankFlags : Prop :=
  ∀ s : State, ∃ t, exec .tick s = .next t ∧
    ((t.scanline = 241 ∧ t.dot = 1) →
      t.vblank = true ∧ t.frameComplete = true ∧ t.vblankStartDot = true ∧ t.inVBlank = true ∧
      t.nmiPending = (s.nmiPending || s.ctrl.getLsbD 7) ∧ t.sprite0Hit = s.sprite0Hit ∧
      t.spriteOverflow = s.spriteOverflow) ∧
    ((t.scanline = preRender s - 1 ∧ t.dot = 340) →
      t.vblank = false ∧ t.nmiPending = false ∧ t.sprite0Hit = false ∧ t.spriteOverflow = false ∧
      t.inVBlank = false ∧ t.vblankStartDot = false ∧ t.frameComplete = s.frameComplete) ∧
    (¬ (t.scanline = 241 ∧ t.dot = 1) → ¬ (t.scanline = preRender s - 1 ∧ t.dot = 340) →
      t.vblank = s.vblank ∧ t.nmiPending = s.nmiPending ∧ t.inVBlank = s.inVBlank ∧
      t.frameComplete = s.frameComplete ∧ t.vblankStartDot = false)

/-- R20, R33 to R38, R41, R43 to R52: the frame of TICK. It writes none of the registers and memories that only register
transactions write, the latches, the evaluation state, secondary OAM and the next buffer each only on their own dots, and it
takes no call back off the record. -/
def Obligations.TickFrame : Prop :=
  ∀ (s : State) (bgDot spDot : Nat → Prop),
    (∀ d, bgDot d ↔ (1 ≤ d ∧ d ≤ 256) ∨ (321 ≤ d ∧ d ≤ 336)) → (∀ d, spDot d ↔ 257 ≤ d ∧ d ≤ 320) →
    ∃ t, exec .tick s = .next t ∧
      (t.ctrl = s.ctrl ∧ t.mask = s.mask ∧ t.t = s.t ∧ t.x = s.x ∧ t.w = s.w ∧ t.ioLatch = s.ioLatch ∧
        t.readBuffer = s.readBuffer ∧ t.ntRam = s.ntRam ∧ t.palRam = s.palRam ∧ t.chrFallback = s.chrFallback) ∧
      (¬ (activeLine t = true ∧ bgDot t.dot ∧ (t.dot - 1) % 8 = 0) → t.ntLatch = s.ntLatch) ∧
      (¬ (activeLine t = true ∧ bgDot t.dot ∧ (t.dot - 1) % 8 = 2) → t.atLatch = s.atLatch) ∧
      (¬ (activeLine t = true ∧ bgDot t.dot ∧ (t.dot - 1) % 8 = 4) → t.ptLoLatch = s.ptLoLatch) ∧
      (¬ (activeLine t = true ∧ bgDot t.dot ∧ (t.dot - 1) % 8 = 6) → t.ptHiLatch = s.ptHiLatch) ∧
      (¬ (activeLine t = true ∧ t.scanline ≤ 239 ∧ (t.dot = 0 ∨
          (65 ≤ t.dot ∧ t.dot ≤ 255 ∧ t.dot % 2 = 1 ∧ s.evalN < 64))) →
        t.evalN = s.evalN ∧ t.evalM = s.evalM ∧ t.evalFound = s.evalFound ∧ t.evalSprite0 = s.evalSprite0) ∧
      (¬ (activeLine t = true ∧ t.scanline ≤ 239 ∧ t.dot % 2 = 1 ∧ (t.dot ≤ 63 ∨
          (65 ≤ t.dot ∧ t.dot ≤ 255 ∧ s.evalN < 64 ∧ s.evalFound < 8))) → t.secOam = s.secOam) ∧
      (¬ (activeLine t = true ∧ t.scanline ≤ 239 ∧ spDot t.dot ∧ (t.dot - 257) % 8 = 4) →
        t.spLoLatch = s.spLoLatch) ∧
      (¬ (activeLine t = true ∧ t.scanline ≤ 239 ∧ spDot t.dot ∧ (t.dot - 257) % 8 = 6) →
        t.spHiLatch = s.spHiLatch) ∧
      (¬ (activeLine t = true ∧ t.scanline ≤ 239 ∧ (t.dot = 256 ∨ t.dot = 321 ∨
          (spDot t.dot ∧ (t.dot - 257) % 8 = 7))) → t.next = s.next) ∧
      ∃ calls, t.events = calls ++ s.events

/-- R156, R158, R293: with rendering disabled, and on the lines 240 to `preRender - 1` whatever the mask, a TICK changes only
the timing, the status flags, the frame buffer, the record of calls and the result, and below the picture neither the frame
buffer nor the record. -/
def Obligations.TickOffActiveLines : Prop :=
  ∀ s : State, ∃ t, exec .tick s = .next t ∧
    (((s.mask.getLsbD 3 = false ∧ s.mask.getLsbD 4 = false) ∨ (240 ≤ t.scanline ∧ t.scanline ≠ preRender s)) →
      t = { s with scanline := t.scanline, dot := t.dot, totalCycles := t.totalCycles, oddFrame := t.oddFrame,
                   vblank := t.vblank, sprite0Hit := t.sprite0Hit, spriteOverflow := t.spriteOverflow,
                   nmiPending := t.nmiPending, frameComplete := t.frameComplete,
                   vblankStartDot := t.vblankStartDot, inVBlank := t.inVBlank, fb := t.fb, events := t.events,
                   result := t.result } ∧
      (240 ≤ t.scanline → t.fb = s.fb ∧ t.events = s.events))

/-! ## TICK: the pixel -/

/-- R249, R247, R248, R252: with rendering disabled the TICK that reaches dot `s.dot + 1` of a visible line writes the
backdrop at column `s.dot`, in one call of the sink, and leaves `sprite0Hit`. -/
def Obligations.BackdropPixel : Prop :=
  ∀ (s : State) (ci : ColourIndex) (c : Rgb), s.mask.getLsbD 3 = false → s.mask.getLsbD 4 = false →
    s.scanline ≤ 239 → s.dot ≤ 255 →
    ci = (if s.mask.getLsbD 0 then palEntry 0 s &&& 0x30 else palEntry 0 s) →
    c = emphasisTint (s.mask.extractLsb' 5 3) (Config.systemPalette ci) →
    ∃ t, exec .tick s = .next t ∧ pixelAt s.dot s.scanline t = some c ∧
      t.events = .setPixel s.dot s.scanline c :: s.events ∧ t.sprite0Hit = s.sprite0Hit

/-- R240, R244 to R248: with rendering enabled the pixel at column `s.dot` is the palette entry that priority selects, after
grayscale, palette and tint, and `sprite0Hit` is set when the winning sprite pixel is sprite 0's over an opaque
background. -/
def Obligations.ComposedPixel : Prop :=
  ∀ (s : State) (bg : BitVec 5) (sp : Option SpritePixel),
    (s.mask.getLsbD 3 = true ∨ s.mask.getLsbD 4 = true) → s.scanline ≤ 239 → s.dot ≤ 255 →
    bg = bgPixelGated s.dot s → sp = spritePixelGated s.dot s →
    ∃ t idx ci, exec .tick s = .next t ∧
      (∀ p, sp = some p → (p.fg = true ∨ bg = 0) → idx = p.index) ∧
      (∀ p, sp = some p → p.fg = false → bg ≠ 0 → idx = bg) ∧
      (sp = none → idx = bg) ∧
      ci = (if s.mask.getLsbD 0 then palEntry idx s &&& 0x30 else palEntry idx s) ∧
      pixelAt s.dot s.scanline t =
        some (emphasisTint (s.mask.extractLsb' 5 3) (Config.systemPalette ci)) ∧
      (t.sprite0Hit = true ↔ s.sprite0Hit = true ∨
        ∃ p k, sp = some p ∧ s.cur.sprite0Slot = some k ∧ k.val = p.slot ∧ bg ≠ 0)

/-- R188, R242: the gated background pixel as a number. -/
def Obligations.BackgroundPixelValue : Prop :=
  ∀ (s : State) (xp b p pal : Nat), b = 15 - s.x.toNat →
    p = 2 * (s.bgPatHi.getLsbD b).toNat + (s.bgPatLo.getLsbD b).toNat →
    pal = 2 * (s.bgAttrHi.getLsbD b).toNat + (s.bgAttrLo.getLsbD b).toNat →
    (bgPixelGated xp s).toNat =
      if s.mask.getLsbD 3 = false ∨ (xp < 8 ∧ s.mask.getLsbD 1 = false) ∨ p = 0 then 0 else 4 * pal + p

/-- R220, R222, R243: the gated sprite pixel is that of the first slot below `count` with an opaque pixel, or none. -/
def Obligations.SpritePixelIsFirstOpaque : Prop :=
  ∀ (s : State) (xp : Nat), s.cur.count ≤ 8 →
    ((s.mask.getLsbD 4 = false ∨ (s.mask.getLsbD 2 = false ∧ xp < 8)) → spritePixelGated xp s = none) ∧
    ((s.mask.getLsbD 4 = true ∧ (s.mask.getLsbD 2 = true ∨ 8 ≤ xp)) →
      (∀ p, spritePixelGated xp s = some p → ∃ k : Fin 8, k.val = p.slot ∧ k.val < s.cur.count ∧
        slotPixel s.params.spriteXOffset xp k s.cur.slots[k] = some p ∧
        ∀ j : Fin 8, j < k → slotPixel s.params.spriteXOffset xp j s.cur.slots[j] = none) ∧
      (spritePixelGated xp s = none → ∀ j : Fin 8, j.val < s.cur.count →
        slotPixel s.params.spriteXOffset xp j s.cur.slots[j] = none))

/-- R220, R221: the pixel of one slot: column `sx` lies `col` columns from the sprite's left edge `xpos - offset`, and the
pixel is opaque where the two planes are not both 0. -/
def Obligations.SlotPixelFormula : Prop :=
  ∀ (offset sx i p : Nat) (sl : SpriteSlot) (col : Int),
    col = (sx : Int) - ((sl.xpos.toNat : Int) - (offset : Int)) →
    p = 2 * (sl.patHi.getLsbD (7 - col.toNat)).toNat + (sl.patLo.getLsbD (7 - col.toNat)).toNat →
    ((col < 0 ∨ 7 < col ∨ p = 0) → slotPixel offset sx i sl = none) ∧
    ((0 ≤ col ∧ col ≤ 7 ∧ p ≠ 0) → ∃ q, slotPixel offset sx i sl = some q ∧ q.slot = i ∧
      q.index.toNat = 16 + 4 * (sl.attr.toNat % 4) + p ∧ (q.fg = true ↔ sl.attr.getLsbD 5 = false))

/-- R251, R252: a TICK that reaches dot 1 to 256 of a visible line gives the pixel at column `dot - 1` of that row a value, in
one call of the sink with that column, row and colour; a TICK writes no other pixel and makes no other call of the sink. The record
of calls is log entry 3's. -/
def Obligations.TickWritesOnePixel : Prop :=
  ∀ s : State, ∃ t calls, exec .tick s = .next t ∧ (∀ x y c, Event.setPixel x y c ∉ calls) ∧
    (t.scanline ≤ 239 → 1 ≤ t.dot → t.dot ≤ 256 → ∃ c, pixelAt (t.dot - 1) t.scanline t = some c ∧
      t.events = calls ++ .setPixel (t.dot - 1) t.scanline c :: s.events) ∧
    (¬ (t.scanline ≤ 239 ∧ 1 ≤ t.dot ∧ t.dot ≤ 256) → t.events = calls ++ s.events) ∧
    ∀ x y, x < 256 → ¬ (t.scanline ≤ 239 ∧ 1 ≤ t.dot ∧ t.dot ≤ 256 ∧ x = t.dot - 1 ∧ y = t.scanline) →
      pixelAt x y t = pixelAt x y s

/-- R241: the compositor reads none of `v`, `t`, `w`, OAM, secondary OAM and the evaluation state: the picture and
`sprite0Hit` after a TICK do not depend on them. -/
def Obligations.CompositorIgnoresScrollAndOam : Prop :=
  ∀ (s : State) (v t : LoopyAddr) (w : Bool) (oam secOam : Memory 8) (n f : Nat) (m : BitVec 2) (z : Bool),
    ∃ a b, exec .tick s = .next a ∧
      exec .tick { s with v := v, t := t, w := w, oam := oam, secOam := secOam, evalN := n, evalFound := f,
                          evalM := m, evalSprite0 := z } = .next b ∧
      a.fb = b.fb ∧ a.sprite0Hit = b.sprite0Hit

/-! ## TICK: the background -/

/-- R170, R171: the coarse-X and the fine-Y increment, field by field. -/
def Obligations.ScrollIncrements : Prop :=
  ∀ v : LoopyAddr,
    ((v.extractLsb' 0 5 = 31 → (incCoarseX v).extractLsb' 0 5 = 0 ∧ (incCoarseX v).getLsbD 10 = !v.getLsbD 10) ∧
      (v.extractLsb' 0 5 ≠ 31 → (incCoarseX v).extractLsb' 0 5 = v.extractLsb' 0 5 + 1 ∧
        (incCoarseX v).getLsbD 10 = v.getLsbD 10) ∧
      (incCoarseX v).extractLsb' 5 5 = v.extractLsb' 5 5 ∧ (incCoarseX v).extractLsb' 11 4 = v.extractLsb' 11 4) ∧
    ((incFineY v).extractLsb' 12 3 = v.extractLsb' 12 3 + 1 ∧
      (incFineY v).extractLsb' 0 5 = v.extractLsb' 0 5 ∧ (incFineY v).getLsbD 10 = v.getLsbD 10 ∧
      (v.extractLsb' 12 3 ≠ 7 → (incFineY v).extractLsb' 5 5 = v.extractLsb' 5 5 ∧
        (incFineY v).getLsbD 11 = v.getLsbD 11) ∧
      (v.extractLsb' 12 3 = 7 → v.extractLsb' 5 5 = 29 →
        (incFineY v).extractLsb' 5 5 = 0 ∧ (incFineY v).getLsbD 11 = !v.getLsbD 11) ∧
      (v.extractLsb' 12 3 = 7 → v.extractLsb' 5 5 ≠ 29 →
        (incFineY v).extractLsb' 5 5 = v.extractLsb' 5 5 + 1 ∧ (incFineY v).getLsbD 11 = v.getLsbD 11))

/-- R172, R173: the horizontal copy takes bits 4..0 and 10 of `t`, the vertical copy bits 9..5, 11 and 14..12. -/
def Obligations.ScrollCopies : Prop :=
  ∀ (v t : LoopyAddr) (k : Nat), k < 15 →
    (copyHorizontal v t).getLsbD k = (if k ≤ 4 ∨ k = 10 then t.getLsbD k else v.getLsbD k) ∧
    (copyVertical v t).getLsbD k = (if k ≤ 4 ∨ k = 10 then v.getLsbD k else t.getLsbD k)

/-- R184 to R187: `v` after a TICK: the coarse-X increment, the fine-Y increment at dot 256, the horizontal copy at dot 257
and the vertical copy at pre-render dots 280 to 304, all on active lines only. -/
def Obligations.ScrollAddressOfTick : Prop :=
  ∀ s : State, ∃ t, exec .tick s = .next t ∧
    (activeLine t = false → t.v = s.v) ∧
    (activeLine t = true →
      (t.dot = 256 → t.v = incFineY (incCoarseX s.v)) ∧
      (t.dot % 8 = 0 → ((8 ≤ t.dot ∧ t.dot ≤ 248) ∨ (328 ≤ t.dot ∧ t.dot ≤ 336)) → t.v = incCoarseX s.v) ∧
      (t.dot = 257 → t.v = copyHorizontal s.v s.t) ∧
      (t.scanline = preRender s → 280 ≤ t.dot → t.dot ≤ 304 → t.v = copyVertical s.v s.t) ∧
      (t.dot ≠ 256 → t.dot ≠ 257 → ¬ (t.scanline = preRender s ∧ 280 ≤ t.dot ∧ t.dot ≤ 304) →
        ¬ (t.dot % 8 = 0 ∧ ((8 ≤ t.dot ∧ t.dot ≤ 248) ∨ (328 ≤ t.dot ∧ t.dot ≤ 336))) → t.v = s.v))

/-- R174 to R178: what each fetch of a tile group latches, by the dot reached on an active line; without a mapper the
pattern bytes come from the fallback buffer, with one they are the answer of the newest call. -/
def Obligations.BackgroundFetches : Prop :=
  ∀ (s : State) (pattern : BusAddr), pattern = patternAddr (bgPatternBase s.ctrl) s.ntLatch (fineY s.v) →
    ∃ t, exec .tick s = .next t ∧
    ((activeLine t = true ∧ ((1 ≤ t.dot ∧ t.dot ≤ 256) ∨ (321 ≤ t.dot ∧ t.dot ≤ 336))) →
      ((t.dot - 1) % 8 = 0 → t.ntLatch = ntRead (nametableAddr s.v) s) ∧
      ((t.dot - 1) % 8 = 2 → t.atLatch = ntRead (attributeAddr s.v) s) ∧
      ((t.dot - 1) % 8 = 4 → s.params.mapperAttached = false →
        t.ptLoLatch = s.chrFallback.read pattern.toNat) ∧
      ((t.dot - 1) % 8 = 6 → s.params.mapperAttached = false →
        t.ptHiLatch = s.chrFallback.read (pattern ||| 0x0008).toNat) ∧
      ((t.dot - 1) % 8 = 4 → s.params.mapperAttached = true →
        t.events.head? = some (.readChr pattern t.ptLoLatch)) ∧
      ((t.dot - 1) % 8 = 6 → s.params.mapperAttached = true →
        t.events.head? = some (.readChr (pattern ||| 0x0008) t.ptHiLatch)))

/-- R73, R174 to R178, R183, R211, R267: the address a TICK leaves on the bus, by the dot reached, and the calls it makes, in
their order and no others: the pixel of a visible dot, one notification when the address differs from the one before and a
mapper is attached, and the read of a pattern fetch with a mapper. The record of calls is log entry 3's. -/
def Obligations.TickBusAddress : Prop :=
  ∀ (s : State) (i : Fin 8) (pattern : BusAddr),
    pattern = patternAddr (bgPatternBase s.ctrl) s.ntLatch (fineY s.v) →
    ∃ (t : State) (patternFetch : Bool) (drawn placed : List Event), exec .tick s = .next t ∧
    (activeLine t = false → t.busAddr = s.busAddr) ∧
    (activeLine t = true →
      (((1 ≤ t.dot ∧ t.dot ≤ 256) ∨ (321 ≤ t.dot ∧ t.dot ≤ 336)) →
        ((t.dot - 1) % 8 = 0 → t.busAddr = nametableAddr s.v) ∧
        ((t.dot - 1) % 8 = 2 → t.busAddr = attributeAddr s.v) ∧
        ((t.dot - 1) % 8 = 4 → t.busAddr = pattern) ∧
        ((t.dot - 1) % 8 = 6 → t.busAddr = pattern ||| 0x0008) ∧
        ((t.dot - 1) % 2 = 1 → t.busAddr = s.busAddr)) ∧
      ((t.dot = 337 ∨ t.dot = 339) → t.busAddr = nametableAddr s.v) ∧
      ((t.scanline ≤ 239 ∧ 257 + 8 * i.val ≤ t.dot ∧ t.dot < 265 + 8 * i.val) →
        ((t.dot - 257) % 8 = 0 ∨ (t.dot - 257) % 8 = 2 → t.busAddr = nametableAddr t.v) ∧
        ((t.dot - 257) % 8 = 4 → t.busAddr = spriteRowAddr i s) ∧
        ((t.dot - 257) % 8 = 6 → t.busAddr = spriteRowAddr i s ||| 0x0008) ∧
        ((t.dot - 257) % 2 = 1 → t.busAddr = s.busAddr)) ∧
      ((t.dot = 0 ∨ (239 < t.scanline ∧ 257 ≤ t.dot ∧ t.dot ≤ 320) ∨ t.dot = 338 ∨ 340 ≤ t.dot) →
        t.busAddr = s.busAddr)) ∧
    (patternFetch = true ↔ s.params.mapperAttached = true ∧ activeLine t = true ∧
      ((((1 ≤ t.dot ∧ t.dot ≤ 256) ∨ (321 ≤ t.dot ∧ t.dot ≤ 336)) ∧ ((t.dot - 1) % 8 = 4 ∨ (t.dot - 1) % 8 = 6)) ∨
        (t.scanline ≤ 239 ∧ 257 ≤ t.dot ∧ t.dot ≤ 320 ∧ ((t.dot - 257) % 8 = 4 ∨ (t.dot - 257) % 8 = 6)))) ∧
    ((t.scanline ≤ 239 ∧ 1 ≤ t.dot ∧ t.dot ≤ 256) → ∃ c, pixelAt (t.dot - 1) t.scanline t = some c ∧
      drawn = .setPixel (t.dot - 1) t.scanline c :: s.events) ∧
    (¬ (t.scanline ≤ 239 ∧ 1 ≤ t.dot ∧ t.dot ≤ 256) → drawn = s.events) ∧
    placed = (if t.busAddr ≠ s.busAddr ∧ s.params.mapperAttached = true then .addressBusChanged t.busAddr :: drawn
      else drawn) ∧
    (patternFetch = false → t.events = placed) ∧
    (patternFetch = true → ∃ answer, t.events = .readChr t.busAddr answer :: placed)

/-- R175 to R178, R61, R67: the fetch addresses as numbers. -/
def Obligations.FetchAddresses : Prop :=
  ∀ (v : LoopyAddr) (c tile : Byte) (cx cy row : Nat), cx = (v.extractLsb' 0 5).toNat →
    cy = (v.extractLsb' 5 5).toNat → row = (v.extractLsb' 12 3).toNat →
    (nametableAddr v).toNat = 0x2000 + v.toNat % 0x1000 ∧
    (attributeAddr v).toNat = 0x23C0 + 0x400 * (v.extractLsb' 10 2).toNat + 8 * (cy / 4) + cx / 4 ∧
    (patternAddr (bgPatternBase c) tile (fineY v)).toNat =
      (if c.getLsbD 4 then 0x1000 else 0) + 16 * tile.toNat + row ∧
    (patternAddr (bgPatternBase c) tile (fineY v) ||| 0x0008).toNat =
      (if c.getLsbD 4 then 0x1000 else 0) + 16 * tile.toNat + 8 + row

/-- R179 to R182: on the fetch dots of an active line each shift register shifts by one, and at `dot mod 8 = 0` its low half
is loaded; elsewhere it is unchanged. -/
def Obligations.ShiftAndLoad : Prop :=
  ∀ (s : State) (sh : Nat) (pal : BitVec 2),
    sh = 4 * ((s.v.extractLsb' 5 5).toNat / 2 % 2) + 2 * ((s.v.extractLsb' 0 5).toNat / 2 % 2) →
    pal = (s.atLatch >>> sh).extractLsb' 0 2 →
    ∃ t, exec .tick s = .next t ∧
      (¬ (activeLine t = true ∧ ((1 ≤ t.dot ∧ t.dot ≤ 256) ∨ (321 ≤ t.dot ∧ t.dot ≤ 336))) →
        t.bgPatLo = s.bgPatLo ∧ t.bgPatHi = s.bgPatHi ∧ t.bgAttrLo = s.bgAttrLo ∧ t.bgAttrHi = s.bgAttrHi) ∧
      ((activeLine t = true ∧ ((1 ≤ t.dot ∧ t.dot ≤ 256) ∨ (321 ≤ t.dot ∧ t.dot ≤ 336))) →
        (t.dot % 8 ≠ 0 → t.bgPatLo = s.bgPatLo <<< 1 ∧ t.bgPatHi = s.bgPatHi <<< 1 ∧
          t.bgAttrLo = s.bgAttrLo <<< 1 ∧ t.bgAttrHi = s.bgAttrHi <<< 1) ∧
        (t.dot % 8 = 0 →
          t.bgPatLo = (s.bgPatLo <<< 1).extractLsb' 8 8 ++ s.ptLoLatch ∧
          t.bgPatHi = (s.bgPatHi <<< 1).extractLsb' 8 8 ++ s.ptHiLatch ∧
          t.bgAttrLo = (s.bgAttrLo <<< 1).extractLsb' 8 8 ++ (if pal.getLsbD 0 then 0xFF#8 else 0#8) ∧
          t.bgAttrHi = (s.bgAttrHi <<< 1).extractLsb' 8 8 ++ (if pal.getLsbD 1 then 0xFF#8 else 0#8)))

/-! ## TICK: the sprites -/

/-- R223, R224: the OAM-corruption copy at pre-render dot 257 and the clear of the OAM address on dots 257 to 320 of every
active line; no other TICK writes primary OAM or its address. -/
def Obligations.OamAddressEffects : Prop :=
  ∀ s : State, OamInv s → ∃ t, exec .tick s = .next t ∧
    ((activeLine t = true ∧ 257 ≤ t.dot ∧ t.dot ≤ 320) → t.oamAddr = 0) ∧
    (¬ (activeLine t = true ∧ 257 ≤ t.dot ∧ t.dot ≤ 320) → t.oamAddr = s.oamAddr) ∧
    (∀ k : Byte, oamRead k t =
      if activeLine t = true ∧ t.scanline = preRender s ∧ t.dot = 257 ∧ 8 ≤ s.oamAddr.toNat ∧ k.toNat < 8
        then oamRead ((s.oamAddr &&& 0xF8) + k) s else oamRead k s)

/-- R202: each odd dot 1 to 63 of a visible active line clears one byte of secondary OAM to 0xFF; even dots write nothing. -/
def Obligations.SecondaryOamClear : Prop :=
  ∀ s : State, ∃ t, exec .tick s = .next t ∧
    ((activeLine t = true ∧ t.scanline ≤ 239 ∧ 1 ≤ t.dot ∧ t.dot ≤ 64) → ∀ j, j < 32 →
      secRead j t = if t.dot % 2 = 1 ∧ j = (t.dot - 1) / 2 then 0xFF else secRead j s)

/-- R201, R210: the evaluation counters are zeroed at dot 0, and dot 256 hands the count and sprite 0 to the next buffer. -/
def Obligations.EvaluationStartsAndEnds : Prop :=
  ∀ s : State, ∃ t, exec .tick s = .next t ∧
    ((activeLine t = true ∧ t.scanline ≤ 239) →
      (t.dot = 0 → t.evalN = 0 ∧ t.evalM = 0 ∧ t.evalFound = 0 ∧ t.evalSprite0 = false) ∧
      (t.dot = 256 → t.next.count = s.evalFound ∧ t.next.slots = s.next.slots ∧
        t.next.sprite0Slot = if s.evalSprite0 then some 0 else none))

/-- R204, R205, R206: a normal evaluation step at an odd dot 65 to 255 of a visible active line: an entry in range is copied
to the next free slot. -/
def Obligations.NormalEvaluationStep : Prop :=
  ∀ (s : State) (y : Byte), s.evalN < 64 → s.evalFound < 8 → y = oamRead (BitVec.ofNat 8 (4 * s.evalN)) s →
    ∃ t, exec .tick s = .next t ∧
      ((activeLine t = true ∧ t.scanline ≤ 239 ∧ 65 ≤ t.dot ∧ t.dot ≤ 255 ∧ t.dot % 2 = 1) →
        t.evalN = s.evalN + 1 ∧ t.evalM = s.evalM ∧ t.spriteOverflow = s.spriteOverflow ∧
        ((y.toNat ≤ t.scanline ∧ t.scanline < y.toNat + (if s.ctrl.getLsbD 5 then 16 else 8)) →
          t.evalFound = s.evalFound + 1 ∧ (t.evalSprite0 = true ↔ s.evalSprite0 = true ∨ s.evalN = 0) ∧
          (∀ k, k < 4 → secRead (4 * s.evalFound + k) t = oamRead (BitVec.ofNat 8 (4 * s.evalN + k)) s) ∧
          (∀ j, j < 32 → j / 4 ≠ s.evalFound → secRead j t = secRead j s)) ∧
        (¬ (y.toNat ≤ t.scanline ∧ t.scanline < y.toNat + (if s.ctrl.getLsbD 5 then 16 else 8)) →
          t.evalFound = s.evalFound ∧ t.evalSprite0 = s.evalSprite0 ∧
          ∀ j, j < 32 → secRead j t = secRead j s))

/-- R207, R208, R209: a buggy evaluation step once 8 sprites are found: the byte at the rotating offset is tested, the
overflow flag is set at once when it is in range, and neither secondary OAM nor the sprite-0 mark is written. -/
def Obligations.BuggyEvaluationStep : Prop :=
  ∀ (s : State) (y : Byte), s.evalN < 64 → s.evalFound = 8 →
    y = oamRead (BitVec.ofNat 8 (4 * s.evalN + s.evalM.toNat)) s →
    ∃ t, exec .tick s = .next t ∧
      ((activeLine t = true ∧ t.scanline ≤ 239 ∧ 65 ≤ t.dot ∧ t.dot ≤ 255 ∧ t.dot % 2 = 1) →
        t.evalN = s.evalN + 1 ∧ t.evalM.toNat = (s.evalM.toNat + 1) % 4 ∧ t.evalFound = 8 ∧
        t.evalSprite0 = s.evalSprite0 ∧ t.secOam = s.secOam ∧
        (t.spriteOverflow = true ↔ s.spriteOverflow = true ∨
          (y.toNat ≤ t.scanline ∧ t.scanline < y.toNat + (if s.ctrl.getLsbD 5 then 16 else 8))))

/-- R211, R214, R216, R217: the pattern fetch of a slot at its sub-steps 4, 6 and 7 on dots 257 to 320 of a visible active
line: without a mapper the plane bytes come from the fallback buffer, with one they are the answer of the newest call; a slot
at or beyond the count is loaded transparent. -/
def Obligations.SpriteFetchSlots : Prop :=
  ∀ (s : State) (i : Fin 8) (k : Nat), ∃ t, exec .tick s = .next t ∧
    ((activeLine t = true ∧ t.scanline ≤ 239 ∧ t.dot = 257 + 8 * i.val + k ∧ k < 8) →
      (k = 4 → s.params.mapperAttached = false →
        t.spLoLatch = s.chrFallback.read (spriteRowAddr i s).toNat) ∧
      (k = 6 → s.params.mapperAttached = false →
        t.spHiLatch = s.chrFallback.read (spriteRowAddr i s ||| 0x0008).toNat) ∧
      (k = 4 → s.params.mapperAttached = true →
        t.events.head? = some (.readChr (spriteRowAddr i s) t.spLoLatch)) ∧
      (k = 6 → s.params.mapperAttached = true →
        t.events.head? = some (.readChr (spriteRowAddr i s ||| 0x0008) t.spHiLatch)) ∧
      (k ≠ 4 → t.spLoLatch = s.spLoLatch) ∧ (k ≠ 6 → t.spHiLatch = s.spHiLatch) ∧
      (k ≠ 7 → t.next = s.next) ∧
      (k = 7 → t.next.count = s.next.count ∧ t.next.sprite0Slot = s.next.sprite0Slot ∧
        (∀ j : Fin 8, j ≠ i → t.next.slots[j] = s.next.slots[j]) ∧
        t.next.slots[i].attr = secRead (4 * i.val + 2) s ∧ t.next.slots[i].xpos = secRead (4 * i.val + 3) s ∧
        (s.next.count ≤ i.val → t.next.slots[i].patLo = 0 ∧ t.next.slots[i].patHi = 0) ∧
        (i.val < s.next.count → (secRead (4 * i.val + 2) s).getLsbD 6 = false →
          t.next.slots[i].patLo = s.spLoLatch ∧ t.next.slots[i].patHi = s.spHiLatch) ∧
        (i.val < s.next.count → (secRead (4 * i.val + 2) s).getLsbD 6 = true →
          t.next.slots[i].patLo = rev8 s.spLoLatch ∧ t.next.slots[i].patHi = rev8 s.spHiLatch)))

/-- R212 to R215, R218: the row address of a sprite slot as a number, at the height CTRL selects now: the row is the distance
from the sprite's Y byte modulo 256, bounded by that height, and where the sprite covers the line it is that distance. A slot
at or beyond the count fetches tile 0xFF, row 0. -/
def Obligations.SpriteRowAddress : Prop :=
  ∀ (s : State) (i : Nat) (y tile attr : Byte) (h raw row : Nat), y = secRead (4 * i) s →
    tile = secRead (4 * i + 1) s → attr = secRead (4 * i + 2) s → h = (if s.ctrl.getLsbD 5 then 16 else 8) →
    raw = (((s.scanline : Int) - (y.toNat : Int)) % 256).toNat % h →
    row = (if attr.getLsbD 7 then h - 1 - raw else raw) →
    ((y.toNat ≤ s.scanline ∧ s.scanline < y.toNat + h) → raw = s.scanline - y.toNat) ∧
    ((i < s.next.count ∧ s.ctrl.getLsbD 5 = false) →
      (spriteRowAddr i s).toNat = (if s.ctrl.getLsbD 3 then 0x1000 else 0) + 16 * tile.toNat + row) ∧
    ((i < s.next.count ∧ s.ctrl.getLsbD 5 = true) →
      (spriteRowAddr i s).toNat =
        0x1000 * (tile.toNat % 2) + 16 * (2 * (tile.toNat / 2) + row / 8) + row % 8) ∧
    ((s.next.count ≤ i ∧ s.ctrl.getLsbD 5 = false) →
      (spriteRowAddr i s).toNat = (if s.ctrl.getLsbD 3 then 0x1000 else 0) + 0x0FF0) ∧
    ((s.next.count ≤ i ∧ s.ctrl.getLsbD 5 = true) → (spriteRowAddr i s).toNat = 0x1FE0)

/-- R216: `Rev8(b)[j] = b[7 - j]`. -/
def Obligations.BitReversal : Prop := ∀ (b : Byte) (j : Nat), j < 8 → (rev8 b).getLsbD j = b.getLsbD (7 - j)

/-- R219: dot 321 of a visible active line exchanges the two buffers; no other TICK writes the buffer being displayed. -/
def Obligations.BufferSwap : Prop :=
  ∀ s : State, ∃ t, exec .tick s = .next t ∧
    ((activeLine t = true ∧ t.scanline ≤ 239 ∧ t.dot = 321) → t.cur = s.next ∧ t.next = s.cur) ∧
    (¬ (activeLine t = true ∧ t.scanline ≤ 239 ∧ t.dot = 321) → t.cur = s.cur)

/-! ## Memories -/

/-- R68: the palette alias and the 6-bit mask, as what a read answers after a write. -/
def Obligations.PaletteReadAfterWrite : Prop :=
  ∀ (i j : BitVec 5) (b : Byte) (s : State),
    palRead i (palWrite j b s) = (if palIndex i = palIndex j then b &&& 0x3F else palRead i s) ∧
    (palIndex i).toNat = (if 16 ≤ i.toNat ∧ i.toNat % 4 = 0 then i.toNat - 16 else i.toNat)

/-- R63 to R66: the mirroring fold as a number, within bounds, what a nametable read answers after a write, and that a write
writes nothing else and is idempotent. -/
def Obligations.NametableMirroring : Prop :=
  ∀ (m : Mirroring) (a : BitVec 12) (b c : BusAddr) (d : Byte) (s : State),
    ntIndex .vertical a = a.toNat % 0x800 ∧
    ntIndex .horizontal a = 0x400 * (a.toNat / 0x800) + a.toNat % 0x400 ∧
    ntIndex .singleScreen a = a.toNat % 0x400 ∧ ntIndex .fourScreen a = a.toNat ∧
    ntIndex m a < (if m = .fourScreen then 4096 else 2048) ∧
    ntRead b (ntWrite c d s) =
      (if ntIndex s.params.mirroring (b.extractLsb' 0 12) = ntIndex s.params.mirroring (c.extractLsb' 0 12)
        then d else ntRead b s) ∧
    ntWrite c d s = { s with ntRam := (ntWrite c d s).ntRam } ∧ ntWrite c d (ntWrite c d s) = ntWrite c d s

/-- R73: placing an address keeps it and, when it changed and a mapper is attached, makes one notification. -/
def Obligations.BusPlaceNotifiesChanges : Prop :=
  ∀ (a : BusAddr) (s : State),
    (a = s.busAddr → busPlace a s = s) ∧
    (a ≠ s.busAddr → s.params.mapperAttached = false → busPlace a s = { s with busAddr := a }) ∧
    (a ≠ s.busAddr → s.params.mapperAttached = true →
      busPlace a s = { s with busAddr := a, events := .addressBusChanged a :: s.events })

/-! ## Whole-machine rules -/

/-- R264: `nmiPending` is raised only by the TICK that reaches `(241, 1)` with NMI enabled, and cleared only by POLL_NMI,
RESET and the TICK that leaves VBlank. -/
def Obligations.NmiRaisedOnlyAtVBlankEntry : Prop :=
  ∀ (i : Instr) (s : State), ∃ t, exec i s = .next t ∧
    (s.nmiPending = false → t.nmiPending = true →
      i = .tick ∧ t.scanline = 241 ∧ t.dot = 1 ∧ s.ctrl.getLsbD 7 = true) ∧
    (s.nmiPending = true → t.nmiPending = false →
      i = .pollNmi ∨ i = .reset ∨ (i = .tick ∧ t.scanline = preRender s - 1 ∧ t.dot = 340))

/-- R27, R28, R209, R244, R292: `sprite0Hit` and `spriteOverflow` are cleared only by the TICK that leaves VBlank and by
RESET. `sprite0Hit` is set only by a TICK that composes a pixel with rendering enabled, `spriteOverflow` only by a buggy
evaluation step. -/
def Obligations.SpriteFlagLifetimes : Prop :=
  ∀ (i : Instr) (s : State), ∃ t, exec i s = .next t ∧
    ((s.sprite0Hit = true ∧ t.sprite0Hit = false) ∨ (s.spriteOverflow = true ∧ t.spriteOverflow = false) →
      i = .reset ∨ (i = .tick ∧ t.scanline = preRender s - 1 ∧ t.dot = 340)) ∧
    (s.sprite0Hit = false → t.sprite0Hit = true →
      i = .tick ∧ t.scanline ≤ 239 ∧ 1 ≤ t.dot ∧ t.dot ≤ 256 ∧ renderingEnabled s = true) ∧
    (s.spriteOverflow = false → t.spriteOverflow = true →
      i = .tick ∧ t.scanline ≤ 239 ∧ 65 ≤ t.dot ∧ t.dot ≤ 255 ∧ t.dot % 2 = 1 ∧ renderingEnabled s = true ∧
        s.evalFound = 8 ∧ s.evalN < 64)

/-- R22 to R25, R46, R47, R49 to R52: only TICK and RESET write the timing, the pipelines, the sprite unit and the frame
buffer. -/
def Obligations.OnlyTickAndResetDriveThePipelines : Prop :=
  ∀ (i : Instr) (s : State), i ≠ .tick → i ≠ .reset → ∃ t, exec i s = .next t ∧
    t.scanline = s.scanline ∧ t.dot = s.dot ∧ t.totalCycles = s.totalCycles ∧ t.oddFrame = s.oddFrame ∧
    t.inVBlank = s.inVBlank ∧ t.vblankStartDot = s.vblankStartDot ∧
    t.ntLatch = s.ntLatch ∧ t.atLatch = s.atLatch ∧ t.ptLoLatch = s.ptLoLatch ∧ t.ptHiLatch = s.ptHiLatch ∧
    t.bgPatLo = s.bgPatLo ∧ t.bgPatHi = s.bgPatHi ∧ t.bgAttrLo = s.bgAttrLo ∧ t.bgAttrHi = s.bgAttrHi ∧
    t.secOam = s.secOam ∧ t.evalN = s.evalN ∧ t.evalM = s.evalM ∧ t.evalFound = s.evalFound ∧
    t.evalSprite0 = s.evalSprite0 ∧ t.cur = s.cur ∧ t.next = s.next ∧ t.spLoLatch = s.spLoLatch ∧
    t.spHiLatch = s.spHiLatch ∧ t.fb = s.fb

/-- R38, R102, R286: `w` changes only by SCROLL_W and ADDR_W, which flip it, and by STATUS_R and RESET, which clear it. -/
def Obligations.WriteToggleWriters : Prop :=
  ∀ (i : Instr) (s : State), ∃ t, exec i s = .next t ∧
    ((∃ d, i = .scrollW d ∨ i = .addrW d) → t.w = !s.w) ∧
    ((i = .statusR ∨ i = .reset) → t.w = false) ∧
    ((∀ d, i ≠ .scrollW d ∧ i ≠ .addrW d) → i ≠ .statusR → i ≠ .reset → t.w = s.w)

/-! ## Invariants and runs -/

/-- The invariant of the machine holds at reset (R53; the launch parameters are log entry 2's). -/
def Obligations.ResetMeetsInvariant : Prop := StateInv State.reset ∧ RasterInv State.reset

/-- R22, R23, R31, R32, R43 to R45, R48 to R52: every step keeps the invariant: the position is one of the frame, the VBlank
flags agree with it, the evaluation state and the buffers stay in range, attribute bytes keep bits 4..2 clear, and every
memory keeps its canonical form and its size. -/
def Obligations.StepKeepsInvariant : Prop := ∀ s t : State, StateInv s → step s = .next t → StateInv t

/-- R251 to R253: every step keeps it true that each pixel the beam has passed in this frame has a value, so the whole
image is there when `frameComplete` is set. -/
def Obligations.StepKeepsRaster : Prop :=
  (∀ s t : State, RasterInv s → step s = .next t → RasterInv t) ∧
    ∀ s : State, RasterInv s → 240 ≤ s.scanline → ∀ x y, x < 256 → y < 240 → pixelAt x y s ≠ none

/-- R159: from `(0, 0)`, after `k` TICKs within the frame, the position is `(k div 341, k mod 341)`, whether or not rendering
is enabled, up to the last dot of the frame, which a frame with the skip of R151 does not have. -/
def Obligations.PositionAfterTicks : Prop :=
  ∀ (s : State) (k last : Nat), s.scanline = 0 → s.dot = 0 →
    last = (if s.params.oddFrameSkip = true ∧ s.oddFrame = true ∧
        (s.mask.getLsbD 3 = true ∨ s.mask.getLsbD 4 = true)
      then 341 * preRender s + 339 else 341 * preRender s + 340) →
    k ≤ last →
    ∃ t, runInstrs (List.replicate k .tick) s = .next t ∧ t.scanline = k / 341 ∧ t.dot = k % 341 ∧
      t.totalCycles = s.totalCycles + BitVec.ofNat 64 k ∧ t.oddFrame = s.oddFrame

/-- R152, R153, R159: a frame lasts `341 * (preRender + 1)` TICKs, one fewer when it is odd with rendering enabled and
ODD_FRAME_SKIP is set, and the next frame has the other parity. -/
def Obligations.FrameLength : Prop :=
  ∀ (s : State) (n : Nat), s.scanline = 0 → s.dot = 0 →
    n = 341 * (preRender s + 1) -
      (if s.params.oddFrameSkip = true ∧ s.oddFrame = true ∧ (s.mask.getLsbD 3 = true ∨ s.mask.getLsbD 4 = true)
        then 1 else 0) →
    ∃ t, runInstrs (List.replicate n .tick) s = .next t ∧ t.scanline = 0 ∧ t.dot = 0 ∧ t.oddFrame = !s.oddFrame

/-- R104: RUNTO reaches its target from every position of the frame, with the number of TICKs of log entry 10. -/
def Obligations.RunToReachesTarget : Prop :=
  ∀ (s : State) (sl d : Nat), PositionInv s → (Line.runTo sl d).wellFormed (preRender s) = true →
    ∃ t, runLines [.runTo sl d] s = .next t ∧ t.scanline = sl ∧ t.dot = d
end

