-- ==== Sys2Proof/Laws/Memory.lean ====
section
/-! SUPPORT. The laws of memories: reading after writing, the canonical form and the size, each kept by every operation. -/

namespace Sys2Proof.Machine

variable {α : Type} {w : Nat}

@[simp] theorem cellAt_nil (a : Nat) : cellAt ([] : List (Nat × α)) a = none := rfl

/-- Listing a value shows it there and leaves every other address. -/
theorem cellAt_putCell (m : List (Nat × α)) (a b : Nat) (v : α) :
    cellAt (putCell m a v) b = if b = a then some v else cellAt m b := by
  induction m with
  | nil => simp [putCell, cellAt, eq_comm]
  | cons c rest ih =>
    obtain ⟨k, u⟩ := c
    simp only [putCell]
    split_ifs with h1 h2 h3 <;> simp only [cellAt, ih] <;> split_ifs <;> first | rfl | omega

/-- Taking an address off the list leaves every other address. -/
theorem cellAt_dropCell (m : List (Nat × α)) (a b : Nat) :
    cellAt (dropCell m a) b = if b = a then none else cellAt m b := by
  induction m with
  | nil => simp [dropCell]
  | cons c rest ih =>
    obtain ⟨k, u⟩ := c
    simp only [dropCell]
    split_ifs with h1 h2 h3 <;> simp only [cellAt, ih] <;> split_ifs <;> first | rfl | omega

/-- A read after a write: the value at the written address, the old contents elsewhere. -/
theorem Memory.read_write (m : Memory w) (a b : Nat) (v : BitVec w) :
    (m.write a v).read b = if b = a then v else m.read b := by
  unfold Memory.read Memory.write
  by_cases hv : v = unlisted
  · simp only [hv, if_true, cellAt_dropCell]
    split_ifs <;> rfl
  · simp only [hv, if_false, cellAt_putCell]
    split_ifs <;> rfl

@[simp] theorem Memory.read_write_same (m : Memory w) (a : Nat) (v : BitVec w) : (m.write a v).read a = v := by
  simp [Memory.read_write]

theorem Memory.read_write_other (m : Memory w) {a b : Nat} (v : BitVec w) (h : b ≠ a) :
    (m.write a v).read b = m.read b := by
  simp [Memory.read_write, h]

@[simp] theorem Memory.read_nil (a : Nat) : Memory.read ([] : Memory w) a = 0 := rfl

theorem putCell_putCell_same (m : List (Nat × α)) (a : Nat) (v : α) : putCell (putCell m a v) a v = putCell m a v := by
  induction m with
  | nil => simp [putCell]
  | cons c rest ih =>
    obtain ⟨k, u⟩ := c
    simp only [putCell]
    split_ifs with h1 h2
    · simp [putCell]
    · simp [putCell]
    · simp [putCell, h1, h2, ih]

theorem dropCell_dropCell_same (m : List (Nat × α)) (a : Nat) : dropCell (dropCell m a) a = dropCell m a := by
  induction m with
  | nil => rfl
  | cons c rest ih =>
    obtain ⟨k, u⟩ := c
    simp only [dropCell]
    split_ifs with h
    · exact ih
    · simp [dropCell, h, ih]

/-- Writing a value twice is writing it once (R66). -/
theorem Memory.write_write_same (m : Memory w) (a : Nat) (v : BitVec w) : (m.write a v).write a v = m.write a v := by
  unfold Memory.write
  split_ifs
  · exact dropCell_dropCell_same m a
  · exact putCell_putCell_same m a v

/-- The addresses of a list after `putCell`. -/
theorem mem_putCell (m : List (Nat × α)) (a : Nat) (v : α) (c : Nat × α) (h : c ∈ putCell m a v) :
    c = (a, v) ∨ c ∈ m := by
  induction m with
  | nil => simpa [putCell] using h
  | cons d rest ih =>
    obtain ⟨k, u⟩ := d
    simp only [putCell] at h
    split_ifs at h
    · simpa using h
    · rcases List.mem_cons.1 h with h | h
      · exact .inl h
      · exact .inr (List.mem_cons_of_mem _ h)
    · rcases List.mem_cons.1 h with h | h
      · exact .inr (h ▸ List.mem_cons_self)
      · exact (ih h).imp_right (List.mem_cons_of_mem _)

theorem mem_dropCell (m : List (Nat × α)) (a : Nat) (c : Nat × α) (h : c ∈ dropCell m a) : c ∈ m := by
  induction m with
  | nil => simp [dropCell] at h
  | cons d rest ih =>
    obtain ⟨k, u⟩ := d
    simp only [dropCell] at h
    split_ifs at h
    · exact List.mem_cons_of_mem _ (ih h)
    · rcases List.mem_cons.1 h with h | h
      · exact h ▸ List.mem_cons_self
      · exact List.mem_cons_of_mem _ (ih h)

theorem risingCells_cons (c : Nat × α) (m : List (Nat × α)) :
    risingCells (c :: m) = true ↔ (∀ d ∈ m, c.1 < d.1) ∧ risingCells m = true := by
  simp [risingCells]

/-- Listing a value keeps the addresses strictly rising. -/
theorem risingCells_putCell (m : List (Nat × α)) (a : Nat) (v : α) (h : risingCells m = true) :
    risingCells (putCell m a v) = true := by
  induction m with
  | nil => simp [putCell, risingCells]
  | cons d rest ih =>
    obtain ⟨k, u⟩ := d
    have hk := (risingCells_cons _ _).1 h
    simp only [putCell]
    split_ifs with h1 h2
    · refine (risingCells_cons _ _).2 ⟨fun d hd => ?_, h⟩
      rcases List.mem_cons.1 hd with hd | hd
      · simpa [hd] using h1
      · have := hk.1 d hd
        simp only at this ⊢
        omega
    · exact (risingCells_cons _ _).2 ⟨fun d hd => by simpa [h2] using hk.1 d hd, hk.2⟩
    · refine (risingCells_cons _ _).2 ⟨fun d hd => ?_, ih hk.2⟩
      rcases mem_putCell _ _ _ _ hd with hd | hd
      · simp only [hd]
        omega
      · exact hk.1 d hd

theorem risingCells_dropCell (m : List (Nat × α)) (a : Nat) (h : risingCells m = true) :
    risingCells (dropCell m a) = true := by
  induction m with
  | nil => simp [dropCell, risingCells]
  | cons d rest ih =>
    obtain ⟨k, u⟩ := d
    have hk := (risingCells_cons _ _).1 h
    simp only [dropCell]
    split_ifs
    · exact ih hk.2
    · exact (risingCells_cons _ _).2 ⟨fun d hd => hk.1 d (mem_dropCell _ _ _ hd), ih hk.2⟩

/-- A write keeps the canonical form. -/
theorem Memory.wf_write (m : Memory w) (a : Nat) (v : BitVec w) (h : m.wf = true) : (m.write a v).wf = true := by
  simp only [Memory.wf, Bool.and_eq_true, List.all_eq_true, bne_iff_ne] at h ⊢
  unfold Memory.write
  split_ifs with hv
  · exact ⟨risingCells_dropCell _ _ h.1, fun c hc => h.2 c (mem_dropCell _ _ _ hc)⟩
  · refine ⟨risingCells_putCell _ _ _ h.1, fun c hc => ?_⟩
    rcases mem_putCell _ _ _ _ hc with rfl | hc
    · exact hv
    · exact h.2 c hc

theorem cellsBelow_putCell (bound : Nat) (m : List (Nat × α)) (a : Nat) (v : α) (h : cellsBelow bound m = true)
    (ha : a < bound) : cellsBelow bound (putCell m a v) = true := by
  simp only [cellsBelow, List.all_eq_true, decide_eq_true_eq] at h ⊢
  intro c hc
  rcases mem_putCell _ _ _ _ hc with rfl | hc
  · exact ha
  · exact h c hc

/-- A write within the size keeps the size. -/
theorem Memory.cellsBelow_write (bound : Nat) (m : Memory w) (a : Nat) (v : BitVec w)
    (h : cellsBelow bound m = true) (ha : a < bound) : cellsBelow bound (m.write a v) = true := by
  unfold Memory.write
  split_ifs
  · simp only [cellsBelow, List.all_eq_true, decide_eq_true_eq] at h ⊢
    exact fun c hc => h c (mem_dropCell _ _ _ hc)
  · exact cellsBelow_putCell _ _ _ _ h ha

/-- `NtIndex` is always within bounds (R65). -/
theorem ntIndex_lt (m : Mirroring) (a : BitVec 12) : ntIndex m a < ntSize m := by
  cases m <;> simp only [ntIndex, ntSize]
  · have : ((a.extractLsb' 11 1).setWidth 12 <<< 10 ||| (a.extractLsb' 0 10).setWidth 12) ≤ (0x7FF : BitVec 12) := by
      revert a; decide
    exact Nat.lt_succ_of_le this
  · have := BitVec.toNat_and a 0x07FF#12
    rw [this]
    exact Nat.lt_succ_of_le Nat.and_le_right
  · have := (a.extractLsb' 0 10).isLt
    omega
  · exact a.isLt

/-! Every operation on a memory keeps the canonical form and the size. -/

variable (s : State)

theorem ntWrite_wf (a : BusAddr) (b : Byte)
    (h : s.ntRam.wf = true ∧ cellsBelow (ntSize s.params.mirroring) s.ntRam = true) :
    (ntWrite a b s).ntRam.wf = true ∧ cellsBelow (ntSize s.params.mirroring) (ntWrite a b s).ntRam = true :=
  ⟨Memory.wf_write _ _ _ h.1, Memory.cellsBelow_write _ _ _ _ h.2 (ntIndex_lt _ _)⟩

theorem palWrite_wf (i : BitVec 5) (b : Byte) (h : s.palRam.wf = true ∧ cellsBelow 32 s.palRam = true) :
    (palWrite i b s).palRam.wf = true ∧ cellsBelow 32 (palWrite i b s).palRam = true :=
  ⟨Memory.wf_write _ _ _ h.1, Memory.cellsBelow_write _ _ _ _ h.2 (palIndex i).isLt⟩

theorem chrWrite_wf (a : BusAddr) (b : Byte) (ha : a.toNat < 8192)
    (h : s.chrFallback.wf = true ∧ cellsBelow 8192 s.chrFallback = true) :
    (chrWrite a b s).chrFallback.wf = true ∧ cellsBelow 8192 (chrWrite a b s).chrFallback = true := by
  unfold chrWrite
  split
  · exact h
  · exact ⟨Memory.wf_write _ _ _ h.1, Memory.cellsBelow_write _ _ _ _ h.2 ha⟩

theorem oamWrite_wf (i b : Byte) (h : s.oam.wf = true ∧ cellsBelow 256 s.oam = true) :
    (oamWrite i b s).oam.wf = true ∧ cellsBelow 256 (oamWrite i b s).oam = true :=
  ⟨Memory.wf_write _ _ _ h.1, Memory.cellsBelow_write _ _ _ _ h.2 i.isLt⟩

theorem secWrite_wf (i : Nat) (b : Byte) (h : s.secOam.wf = true ∧ cellsBelow 32 s.secOam = true) :
    (secWrite i b s).secOam.wf = true ∧ cellsBelow 32 (secWrite i b s).secOam = true :=
  ⟨Memory.wf_write _ _ _ h.1, Memory.cellsBelow_write _ _ _ _ h.2 (Nat.mod_lt _ (by decide))⟩

theorem setPixel_wf (x y : Nat) (c : Rgb) (hx : x < 256) (hy : y < 240)
    (h : risingCells s.fb = true ∧ cellsBelow 61440 s.fb = true) :
    risingCells (setPixel x y c s).fb = true ∧ cellsBelow 61440 (setPixel x y c s).fb = true :=
  ⟨risingCells_putCell _ _ _ h.1, cellsBelow_putCell _ _ _ _ h.2 (by omega)⟩

/-- A read of OAM after a write: the byte it keeps at the written index (R74). -/
theorem oamRead_oamWrite (i j b : Byte) :
    oamRead j (oamWrite i b s) = if j = i then oamKeeps i b else oamRead j s := by
  simp only [oamRead, oamWrite, Memory.read_write, BitVec.toNat_inj]

end Sys2Proof.Machine
end

