-- ==== Sys2Proof/Laws/State.lean ====
section
/-! SUPPORT. The named updates of State, field by field: one lemma per field per update, true by rfl. -/

namespace Sys2Proof.Machine

variable (s : State)

/-! record -/

@[simp] theorem record_scanline (e : Event) : (record e s).scanline = s.scanline := rfl
@[simp] theorem record_dot (e : Event) : (record e s).dot = s.dot := rfl
@[simp] theorem record_totalCycles (e : Event) : (record e s).totalCycles = s.totalCycles := rfl
@[simp] theorem record_oddFrame (e : Event) : (record e s).oddFrame = s.oddFrame := rfl
@[simp] theorem record_vblank (e : Event) : (record e s).vblank = s.vblank := rfl
@[simp] theorem record_sprite0Hit (e : Event) : (record e s).sprite0Hit = s.sprite0Hit := rfl
@[simp] theorem record_spriteOverflow (e : Event) : (record e s).spriteOverflow = s.spriteOverflow := rfl
@[simp] theorem record_nmiPending (e : Event) : (record e s).nmiPending = s.nmiPending := rfl
@[simp] theorem record_frameComplete (e : Event) : (record e s).frameComplete = s.frameComplete := rfl
@[simp] theorem record_vblankStartDot (e : Event) : (record e s).vblankStartDot = s.vblankStartDot := rfl
@[simp] theorem record_inVBlank (e : Event) : (record e s).inVBlank = s.inVBlank := rfl
@[simp] theorem record_ctrl (e : Event) : (record e s).ctrl = s.ctrl := rfl
@[simp] theorem record_mask (e : Event) : (record e s).mask = s.mask := rfl
@[simp] theorem record_v (e : Event) : (record e s).v = s.v := rfl
@[simp] theorem record_t (e : Event) : (record e s).t = s.t := rfl
@[simp] theorem record_x (e : Event) : (record e s).x = s.x := rfl
@[simp] theorem record_w (e : Event) : (record e s).w = s.w := rfl
@[simp] theorem record_oamAddr (e : Event) : (record e s).oamAddr = s.oamAddr := rfl
@[simp] theorem record_ioLatch (e : Event) : (record e s).ioLatch = s.ioLatch := rfl
@[simp] theorem record_readBuffer (e : Event) : (record e s).readBuffer = s.readBuffer := rfl
@[simp] theorem record_busAddr (e : Event) : (record e s).busAddr = s.busAddr := rfl
@[simp] theorem record_ntRam (e : Event) : (record e s).ntRam = s.ntRam := rfl
@[simp] theorem record_palRam (e : Event) : (record e s).palRam = s.palRam := rfl
@[simp] theorem record_chrFallback (e : Event) : (record e s).chrFallback = s.chrFallback := rfl
@[simp] theorem record_ntLatch (e : Event) : (record e s).ntLatch = s.ntLatch := rfl
@[simp] theorem record_atLatch (e : Event) : (record e s).atLatch = s.atLatch := rfl
@[simp] theorem record_ptLoLatch (e : Event) : (record e s).ptLoLatch = s.ptLoLatch := rfl
@[simp] theorem record_ptHiLatch (e : Event) : (record e s).ptHiLatch = s.ptHiLatch := rfl
@[simp] theorem record_bgPatLo (e : Event) : (record e s).bgPatLo = s.bgPatLo := rfl
@[simp] theorem record_bgPatHi (e : Event) : (record e s).bgPatHi = s.bgPatHi := rfl
@[simp] theorem record_bgAttrLo (e : Event) : (record e s).bgAttrLo = s.bgAttrLo := rfl
@[simp] theorem record_bgAttrHi (e : Event) : (record e s).bgAttrHi = s.bgAttrHi := rfl
@[simp] theorem record_oam (e : Event) : (record e s).oam = s.oam := rfl
@[simp] theorem record_secOam (e : Event) : (record e s).secOam = s.secOam := rfl
@[simp] theorem record_evalN (e : Event) : (record e s).evalN = s.evalN := rfl
@[simp] theorem record_evalM (e : Event) : (record e s).evalM = s.evalM := rfl
@[simp] theorem record_evalFound (e : Event) : (record e s).evalFound = s.evalFound := rfl
@[simp] theorem record_evalSprite0 (e : Event) : (record e s).evalSprite0 = s.evalSprite0 := rfl
@[simp] theorem record_cur (e : Event) : (record e s).cur = s.cur := rfl
@[simp] theorem record_next (e : Event) : (record e s).next = s.next := rfl
@[simp] theorem record_spLoLatch (e : Event) : (record e s).spLoLatch = s.spLoLatch := rfl
@[simp] theorem record_spHiLatch (e : Event) : (record e s).spHiLatch = s.spHiLatch := rfl
@[simp] theorem record_fb (e : Event) : (record e s).fb = s.fb := rfl
@[simp] theorem record_params (e : Event) : (record e s).params = s.params := rfl
@[simp] theorem record_result (e : Event) : (record e s).result = s.result := rfl
@[simp] theorem record_events (e : Event) : (record e s).events = e :: s.events := rfl
@[simp] theorem record_issued (e : Event) : (record e s).issued = s.issued := rfl

/-! endWrite -/

@[simp] theorem endWrite_scanline (d : Byte) : (endWrite d s).scanline = s.scanline := rfl
@[simp] theorem endWrite_dot (d : Byte) : (endWrite d s).dot = s.dot := rfl
@[simp] theorem endWrite_totalCycles (d : Byte) : (endWrite d s).totalCycles = s.totalCycles := rfl
@[simp] theorem endWrite_oddFrame (d : Byte) : (endWrite d s).oddFrame = s.oddFrame := rfl
@[simp] theorem endWrite_vblank (d : Byte) : (endWrite d s).vblank = s.vblank := rfl
@[simp] theorem endWrite_sprite0Hit (d : Byte) : (endWrite d s).sprite0Hit = s.sprite0Hit := rfl
@[simp] theorem endWrite_spriteOverflow (d : Byte) : (endWrite d s).spriteOverflow = s.spriteOverflow := rfl
@[simp] theorem endWrite_nmiPending (d : Byte) : (endWrite d s).nmiPending = s.nmiPending := rfl
@[simp] theorem endWrite_frameComplete (d : Byte) : (endWrite d s).frameComplete = s.frameComplete := rfl
@[simp] theorem endWrite_vblankStartDot (d : Byte) : (endWrite d s).vblankStartDot = s.vblankStartDot := rfl
@[simp] theorem endWrite_inVBlank (d : Byte) : (endWrite d s).inVBlank = s.inVBlank := rfl
@[simp] theorem endWrite_ctrl (d : Byte) : (endWrite d s).ctrl = s.ctrl := rfl
@[simp] theorem endWrite_mask (d : Byte) : (endWrite d s).mask = s.mask := rfl
@[simp] theorem endWrite_v (d : Byte) : (endWrite d s).v = s.v := rfl
@[simp] theorem endWrite_t (d : Byte) : (endWrite d s).t = s.t := rfl
@[simp] theorem endWrite_x (d : Byte) : (endWrite d s).x = s.x := rfl
@[simp] theorem endWrite_w (d : Byte) : (endWrite d s).w = s.w := rfl
@[simp] theorem endWrite_oamAddr (d : Byte) : (endWrite d s).oamAddr = s.oamAddr := rfl
@[simp] theorem endWrite_ioLatch (d : Byte) : (endWrite d s).ioLatch = d := rfl
@[simp] theorem endWrite_readBuffer (d : Byte) : (endWrite d s).readBuffer = s.readBuffer := rfl
@[simp] theorem endWrite_busAddr (d : Byte) : (endWrite d s).busAddr = s.busAddr := rfl
@[simp] theorem endWrite_ntRam (d : Byte) : (endWrite d s).ntRam = s.ntRam := rfl
@[simp] theorem endWrite_palRam (d : Byte) : (endWrite d s).palRam = s.palRam := rfl
@[simp] theorem endWrite_chrFallback (d : Byte) : (endWrite d s).chrFallback = s.chrFallback := rfl
@[simp] theorem endWrite_ntLatch (d : Byte) : (endWrite d s).ntLatch = s.ntLatch := rfl
@[simp] theorem endWrite_atLatch (d : Byte) : (endWrite d s).atLatch = s.atLatch := rfl
@[simp] theorem endWrite_ptLoLatch (d : Byte) : (endWrite d s).ptLoLatch = s.ptLoLatch := rfl
@[simp] theorem endWrite_ptHiLatch (d : Byte) : (endWrite d s).ptHiLatch = s.ptHiLatch := rfl
@[simp] theorem endWrite_bgPatLo (d : Byte) : (endWrite d s).bgPatLo = s.bgPatLo := rfl
@[simp] theorem endWrite_bgPatHi (d : Byte) : (endWrite d s).bgPatHi = s.bgPatHi := rfl
@[simp] theorem endWrite_bgAttrLo (d : Byte) : (endWrite d s).bgAttrLo = s.bgAttrLo := rfl
@[simp] theorem endWrite_bgAttrHi (d : Byte) : (endWrite d s).bgAttrHi = s.bgAttrHi := rfl
@[simp] theorem endWrite_oam (d : Byte) : (endWrite d s).oam = s.oam := rfl
@[simp] theorem endWrite_secOam (d : Byte) : (endWrite d s).secOam = s.secOam := rfl
@[simp] theorem endWrite_evalN (d : Byte) : (endWrite d s).evalN = s.evalN := rfl
@[simp] theorem endWrite_evalM (d : Byte) : (endWrite d s).evalM = s.evalM := rfl
@[simp] theorem endWrite_evalFound (d : Byte) : (endWrite d s).evalFound = s.evalFound := rfl
@[simp] theorem endWrite_evalSprite0 (d : Byte) : (endWrite d s).evalSprite0 = s.evalSprite0 := rfl
@[simp] theorem endWrite_cur (d : Byte) : (endWrite d s).cur = s.cur := rfl
@[simp] theorem endWrite_next (d : Byte) : (endWrite d s).next = s.next := rfl
@[simp] theorem endWrite_spLoLatch (d : Byte) : (endWrite d s).spLoLatch = s.spLoLatch := rfl
@[simp] theorem endWrite_spHiLatch (d : Byte) : (endWrite d s).spHiLatch = s.spHiLatch := rfl
@[simp] theorem endWrite_fb (d : Byte) : (endWrite d s).fb = s.fb := rfl
@[simp] theorem endWrite_params (d : Byte) : (endWrite d s).params = s.params := rfl
@[simp] theorem endWrite_result (d : Byte) : (endWrite d s).result = .nothing := rfl
@[simp] theorem endWrite_events (d : Byte) : (endWrite d s).events = s.events := rfl
@[simp] theorem endWrite_issued (d : Byte) : (endWrite d s).issued = s.issued := rfl

/-! endRead -/

@[simp] theorem endRead_scanline (b : Byte) : (endRead b s).scanline = s.scanline := rfl
@[simp] theorem endRead_dot (b : Byte) : (endRead b s).dot = s.dot := rfl
@[simp] theorem endRead_totalCycles (b : Byte) : (endRead b s).totalCycles = s.totalCycles := rfl
@[simp] theorem endRead_oddFrame (b : Byte) : (endRead b s).oddFrame = s.oddFrame := rfl
@[simp] theorem endRead_vblank (b : Byte) : (endRead b s).vblank = s.vblank := rfl
@[simp] theorem endRead_sprite0Hit (b : Byte) : (endRead b s).sprite0Hit = s.sprite0Hit := rfl
@[simp] theorem endRead_spriteOverflow (b : Byte) : (endRead b s).spriteOverflow = s.spriteOverflow := rfl
@[simp] theorem endRead_nmiPending (b : Byte) : (endRead b s).nmiPending = s.nmiPending := rfl
@[simp] theorem endRead_frameComplete (b : Byte) : (endRead b s).frameComplete = s.frameComplete := rfl
@[simp] theorem endRead_vblankStartDot (b : Byte) : (endRead b s).vblankStartDot = s.vblankStartDot := rfl
@[simp] theorem endRead_inVBlank (b : Byte) : (endRead b s).inVBlank = s.inVBlank := rfl
@[simp] theorem endRead_ctrl (b : Byte) : (endRead b s).ctrl = s.ctrl := rfl
@[simp] theorem endRead_mask (b : Byte) : (endRead b s).mask = s.mask := rfl
@[simp] theorem endRead_v (b : Byte) : (endRead b s).v = s.v := rfl
@[simp] theorem endRead_t (b : Byte) : (endRead b s).t = s.t := rfl
@[simp] theorem endRead_x (b : Byte) : (endRead b s).x = s.x := rfl
@[simp] theorem endRead_w (b : Byte) : (endRead b s).w = s.w := rfl
@[simp] theorem endRead_oamAddr (b : Byte) : (endRead b s).oamAddr = s.oamAddr := rfl
@[simp] theorem endRead_ioLatch (b : Byte) : (endRead b s).ioLatch = b := rfl
@[simp] theorem endRead_readBuffer (b : Byte) : (endRead b s).readBuffer = s.readBuffer := rfl
@[simp] theorem endRead_busAddr (b : Byte) : (endRead b s).busAddr = s.busAddr := rfl
@[simp] theorem endRead_ntRam (b : Byte) : (endRead b s).ntRam = s.ntRam := rfl
@[simp] theorem endRead_palRam (b : Byte) : (endRead b s).palRam = s.palRam := rfl
@[simp] theorem endRead_chrFallback (b : Byte) : (endRead b s).chrFallback = s.chrFallback := rfl
@[simp] theorem endRead_ntLatch (b : Byte) : (endRead b s).ntLatch = s.ntLatch := rfl
@[simp] theorem endRead_atLatch (b : Byte) : (endRead b s).atLatch = s.atLatch := rfl
@[simp] theorem endRead_ptLoLatch (b : Byte) : (endRead b s).ptLoLatch = s.ptLoLatch := rfl
@[simp] theorem endRead_ptHiLatch (b : Byte) : (endRead b s).ptHiLatch = s.ptHiLatch := rfl
@[simp] theorem endRead_bgPatLo (b : Byte) : (endRead b s).bgPatLo = s.bgPatLo := rfl
@[simp] theorem endRead_bgPatHi (b : Byte) : (endRead b s).bgPatHi = s.bgPatHi := rfl
@[simp] theorem endRead_bgAttrLo (b : Byte) : (endRead b s).bgAttrLo = s.bgAttrLo := rfl
@[simp] theorem endRead_bgAttrHi (b : Byte) : (endRead b s).bgAttrHi = s.bgAttrHi := rfl
@[simp] theorem endRead_oam (b : Byte) : (endRead b s).oam = s.oam := rfl
@[simp] theorem endRead_secOam (b : Byte) : (endRead b s).secOam = s.secOam := rfl
@[simp] theorem endRead_evalN (b : Byte) : (endRead b s).evalN = s.evalN := rfl
@[simp] theorem endRead_evalM (b : Byte) : (endRead b s).evalM = s.evalM := rfl
@[simp] theorem endRead_evalFound (b : Byte) : (endRead b s).evalFound = s.evalFound := rfl
@[simp] theorem endRead_evalSprite0 (b : Byte) : (endRead b s).evalSprite0 = s.evalSprite0 := rfl
@[simp] theorem endRead_cur (b : Byte) : (endRead b s).cur = s.cur := rfl
@[simp] theorem endRead_next (b : Byte) : (endRead b s).next = s.next := rfl
@[simp] theorem endRead_spLoLatch (b : Byte) : (endRead b s).spLoLatch = s.spLoLatch := rfl
@[simp] theorem endRead_spHiLatch (b : Byte) : (endRead b s).spHiLatch = s.spHiLatch := rfl
@[simp] theorem endRead_fb (b : Byte) : (endRead b s).fb = s.fb := rfl
@[simp] theorem endRead_params (b : Byte) : (endRead b s).params = s.params := rfl
@[simp] theorem endRead_result (b : Byte) : (endRead b s).result = .byte b := rfl
@[simp] theorem endRead_events (b : Byte) : (endRead b s).events = s.events := rfl
@[simp] theorem endRead_issued (b : Byte) : (endRead b s).issued = s.issued := rfl

/-! latchRead -/

@[simp] theorem latchRead_scanline : (latchRead s).scanline = s.scanline := rfl
@[simp] theorem latchRead_dot : (latchRead s).dot = s.dot := rfl
@[simp] theorem latchRead_totalCycles : (latchRead s).totalCycles = s.totalCycles := rfl
@[simp] theorem latchRead_oddFrame : (latchRead s).oddFrame = s.oddFrame := rfl
@[simp] theorem latchRead_vblank : (latchRead s).vblank = s.vblank := rfl
@[simp] theorem latchRead_sprite0Hit : (latchRead s).sprite0Hit = s.sprite0Hit := rfl
@[simp] theorem latchRead_spriteOverflow : (latchRead s).spriteOverflow = s.spriteOverflow := rfl
@[simp] theorem latchRead_nmiPending : (latchRead s).nmiPending = s.nmiPending := rfl
@[simp] theorem latchRead_frameComplete : (latchRead s).frameComplete = s.frameComplete := rfl
@[simp] theorem latchRead_vblankStartDot : (latchRead s).vblankStartDot = s.vblankStartDot := rfl
@[simp] theorem latchRead_inVBlank : (latchRead s).inVBlank = s.inVBlank := rfl
@[simp] theorem latchRead_ctrl : (latchRead s).ctrl = s.ctrl := rfl
@[simp] theorem latchRead_mask : (latchRead s).mask = s.mask := rfl
@[simp] theorem latchRead_v : (latchRead s).v = s.v := rfl
@[simp] theorem latchRead_t : (latchRead s).t = s.t := rfl
@[simp] theorem latchRead_x : (latchRead s).x = s.x := rfl
@[simp] theorem latchRead_w : (latchRead s).w = s.w := rfl
@[simp] theorem latchRead_oamAddr : (latchRead s).oamAddr = s.oamAddr := rfl
@[simp] theorem latchRead_ioLatch : (latchRead s).ioLatch = s.ioLatch := rfl
@[simp] theorem latchRead_readBuffer : (latchRead s).readBuffer = s.readBuffer := rfl
@[simp] theorem latchRead_busAddr : (latchRead s).busAddr = s.busAddr := rfl
@[simp] theorem latchRead_ntRam : (latchRead s).ntRam = s.ntRam := rfl
@[simp] theorem latchRead_palRam : (latchRead s).palRam = s.palRam := rfl
@[simp] theorem latchRead_chrFallback : (latchRead s).chrFallback = s.chrFallback := rfl
@[simp] theorem latchRead_ntLatch : (latchRead s).ntLatch = s.ntLatch := rfl
@[simp] theorem latchRead_atLatch : (latchRead s).atLatch = s.atLatch := rfl
@[simp] theorem latchRead_ptLoLatch : (latchRead s).ptLoLatch = s.ptLoLatch := rfl
@[simp] theorem latchRead_ptHiLatch : (latchRead s).ptHiLatch = s.ptHiLatch := rfl
@[simp] theorem latchRead_bgPatLo : (latchRead s).bgPatLo = s.bgPatLo := rfl
@[simp] theorem latchRead_bgPatHi : (latchRead s).bgPatHi = s.bgPatHi := rfl
@[simp] theorem latchRead_bgAttrLo : (latchRead s).bgAttrLo = s.bgAttrLo := rfl
@[simp] theorem latchRead_bgAttrHi : (latchRead s).bgAttrHi = s.bgAttrHi := rfl
@[simp] theorem latchRead_oam : (latchRead s).oam = s.oam := rfl
@[simp] theorem latchRead_secOam : (latchRead s).secOam = s.secOam := rfl
@[simp] theorem latchRead_evalN : (latchRead s).evalN = s.evalN := rfl
@[simp] theorem latchRead_evalM : (latchRead s).evalM = s.evalM := rfl
@[simp] theorem latchRead_evalFound : (latchRead s).evalFound = s.evalFound := rfl
@[simp] theorem latchRead_evalSprite0 : (latchRead s).evalSprite0 = s.evalSprite0 := rfl
@[simp] theorem latchRead_cur : (latchRead s).cur = s.cur := rfl
@[simp] theorem latchRead_next : (latchRead s).next = s.next := rfl
@[simp] theorem latchRead_spLoLatch : (latchRead s).spLoLatch = s.spLoLatch := rfl
@[simp] theorem latchRead_spHiLatch : (latchRead s).spHiLatch = s.spHiLatch := rfl
@[simp] theorem latchRead_fb : (latchRead s).fb = s.fb := rfl
@[simp] theorem latchRead_params : (latchRead s).params = s.params := rfl
@[simp] theorem latchRead_result : (latchRead s).result = .byte s.ioLatch := rfl
@[simp] theorem latchRead_events : (latchRead s).events = s.events := rfl
@[simp] theorem latchRead_issued : (latchRead s).issued = s.issued := rfl

/-! ntWrite -/

@[simp] theorem ntWrite_scanline (a : BusAddr) (b : Byte) : (ntWrite a b s).scanline = s.scanline := rfl
@[simp] theorem ntWrite_dot (a : BusAddr) (b : Byte) : (ntWrite a b s).dot = s.dot := rfl
@[simp] theorem ntWrite_totalCycles (a : BusAddr) (b : Byte) : (ntWrite a b s).totalCycles = s.totalCycles := rfl
@[simp] theorem ntWrite_oddFrame (a : BusAddr) (b : Byte) : (ntWrite a b s).oddFrame = s.oddFrame := rfl
@[simp] theorem ntWrite_vblank (a : BusAddr) (b : Byte) : (ntWrite a b s).vblank = s.vblank := rfl
@[simp] theorem ntWrite_sprite0Hit (a : BusAddr) (b : Byte) : (ntWrite a b s).sprite0Hit = s.sprite0Hit := rfl
@[simp] theorem ntWrite_spriteOverflow (a : BusAddr) (b : Byte) : (ntWrite a b s).spriteOverflow = s.spriteOverflow := rfl
@[simp] theorem ntWrite_nmiPending (a : BusAddr) (b : Byte) : (ntWrite a b s).nmiPending = s.nmiPending := rfl
@[simp] theorem ntWrite_frameComplete (a : BusAddr) (b : Byte) : (ntWrite a b s).frameComplete = s.frameComplete := rfl
@[simp] theorem ntWrite_vblankStartDot (a : BusAddr) (b : Byte) : (ntWrite a b s).vblankStartDot = s.vblankStartDot := rfl
@[simp] theorem ntWrite_inVBlank (a : BusAddr) (b : Byte) : (ntWrite a b s).inVBlank = s.inVBlank := rfl
@[simp] theorem ntWrite_ctrl (a : BusAddr) (b : Byte) : (ntWrite a b s).ctrl = s.ctrl := rfl
@[simp] theorem ntWrite_mask (a : BusAddr) (b : Byte) : (ntWrite a b s).mask = s.mask := rfl
@[simp] theorem ntWrite_v (a : BusAddr) (b : Byte) : (ntWrite a b s).v = s.v := rfl
@[simp] theorem ntWrite_t (a : BusAddr) (b : Byte) : (ntWrite a b s).t = s.t := rfl
@[simp] theorem ntWrite_x (a : BusAddr) (b : Byte) : (ntWrite a b s).x = s.x := rfl
@[simp] theorem ntWrite_w (a : BusAddr) (b : Byte) : (ntWrite a b s).w = s.w := rfl
@[simp] theorem ntWrite_oamAddr (a : BusAddr) (b : Byte) : (ntWrite a b s).oamAddr = s.oamAddr := rfl
@[simp] theorem ntWrite_ioLatch (a : BusAddr) (b : Byte) : (ntWrite a b s).ioLatch = s.ioLatch := rfl
@[simp] theorem ntWrite_readBuffer (a : BusAddr) (b : Byte) : (ntWrite a b s).readBuffer = s.readBuffer := rfl
@[simp] theorem ntWrite_busAddr (a : BusAddr) (b : Byte) : (ntWrite a b s).busAddr = s.busAddr := rfl
@[simp] theorem ntWrite_ntRam (a : BusAddr) (b : Byte) : (ntWrite a b s).ntRam = s.ntRam.write (ntIndex s.params.mirroring (a.setWidth 12)) b := rfl
@[simp] theorem ntWrite_palRam (a : BusAddr) (b : Byte) : (ntWrite a b s).palRam = s.palRam := rfl
@[simp] theorem ntWrite_chrFallback (a : BusAddr) (b : Byte) : (ntWrite a b s).chrFallback = s.chrFallback := rfl
@[simp] theorem ntWrite_ntLatch (a : BusAddr) (b : Byte) : (ntWrite a b s).ntLatch = s.ntLatch := rfl
@[simp] theorem ntWrite_atLatch (a : BusAddr) (b : Byte) : (ntWrite a b s).atLatch = s.atLatch := rfl
@[simp] theorem ntWrite_ptLoLatch (a : BusAddr) (b : Byte) : (ntWrite a b s).ptLoLatch = s.ptLoLatch := rfl
@[simp] theorem ntWrite_ptHiLatch (a : BusAddr) (b : Byte) : (ntWrite a b s).ptHiLatch = s.ptHiLatch := rfl
@[simp] theorem ntWrite_bgPatLo (a : BusAddr) (b : Byte) : (ntWrite a b s).bgPatLo = s.bgPatLo := rfl
@[simp] theorem ntWrite_bgPatHi (a : BusAddr) (b : Byte) : (ntWrite a b s).bgPatHi = s.bgPatHi := rfl
@[simp] theorem ntWrite_bgAttrLo (a : BusAddr) (b : Byte) : (ntWrite a b s).bgAttrLo = s.bgAttrLo := rfl
@[simp] theorem ntWrite_bgAttrHi (a : BusAddr) (b : Byte) : (ntWrite a b s).bgAttrHi = s.bgAttrHi := rfl
@[simp] theorem ntWrite_oam (a : BusAddr) (b : Byte) : (ntWrite a b s).oam = s.oam := rfl
@[simp] theorem ntWrite_secOam (a : BusAddr) (b : Byte) : (ntWrite a b s).secOam = s.secOam := rfl
@[simp] theorem ntWrite_evalN (a : BusAddr) (b : Byte) : (ntWrite a b s).evalN = s.evalN := rfl
@[simp] theorem ntWrite_evalM (a : BusAddr) (b : Byte) : (ntWrite a b s).evalM = s.evalM := rfl
@[simp] theorem ntWrite_evalFound (a : BusAddr) (b : Byte) : (ntWrite a b s).evalFound = s.evalFound := rfl
@[simp] theorem ntWrite_evalSprite0 (a : BusAddr) (b : Byte) : (ntWrite a b s).evalSprite0 = s.evalSprite0 := rfl
@[simp] theorem ntWrite_cur (a : BusAddr) (b : Byte) : (ntWrite a b s).cur = s.cur := rfl
@[simp] theorem ntWrite_next (a : BusAddr) (b : Byte) : (ntWrite a b s).next = s.next := rfl
@[simp] theorem ntWrite_spLoLatch (a : BusAddr) (b : Byte) : (ntWrite a b s).spLoLatch = s.spLoLatch := rfl
@[simp] theorem ntWrite_spHiLatch (a : BusAddr) (b : Byte) : (ntWrite a b s).spHiLatch = s.spHiLatch := rfl
@[simp] theorem ntWrite_fb (a : BusAddr) (b : Byte) : (ntWrite a b s).fb = s.fb := rfl
@[simp] theorem ntWrite_params (a : BusAddr) (b : Byte) : (ntWrite a b s).params = s.params := rfl
@[simp] theorem ntWrite_result (a : BusAddr) (b : Byte) : (ntWrite a b s).result = s.result := rfl
@[simp] theorem ntWrite_events (a : BusAddr) (b : Byte) : (ntWrite a b s).events = s.events := rfl
@[simp] theorem ntWrite_issued (a : BusAddr) (b : Byte) : (ntWrite a b s).issued = s.issued := rfl

/-! palWrite -/

@[simp] theorem palWrite_scanline (i : BitVec 5) (b : Byte) : (palWrite i b s).scanline = s.scanline := rfl
@[simp] theorem palWrite_dot (i : BitVec 5) (b : Byte) : (palWrite i b s).dot = s.dot := rfl
@[simp] theorem palWrite_totalCycles (i : BitVec 5) (b : Byte) : (palWrite i b s).totalCycles = s.totalCycles := rfl
@[simp] theorem palWrite_oddFrame (i : BitVec 5) (b : Byte) : (palWrite i b s).oddFrame = s.oddFrame := rfl
@[simp] theorem palWrite_vblank (i : BitVec 5) (b : Byte) : (palWrite i b s).vblank = s.vblank := rfl
@[simp] theorem palWrite_sprite0Hit (i : BitVec 5) (b : Byte) : (palWrite i b s).sprite0Hit = s.sprite0Hit := rfl
@[simp] theorem palWrite_spriteOverflow (i : BitVec 5) (b : Byte) : (palWrite i b s).spriteOverflow = s.spriteOverflow := rfl
@[simp] theorem palWrite_nmiPending (i : BitVec 5) (b : Byte) : (palWrite i b s).nmiPending = s.nmiPending := rfl
@[simp] theorem palWrite_frameComplete (i : BitVec 5) (b : Byte) : (palWrite i b s).frameComplete = s.frameComplete := rfl
@[simp] theorem palWrite_vblankStartDot (i : BitVec 5) (b : Byte) : (palWrite i b s).vblankStartDot = s.vblankStartDot := rfl
@[simp] theorem palWrite_inVBlank (i : BitVec 5) (b : Byte) : (palWrite i b s).inVBlank = s.inVBlank := rfl
@[simp] theorem palWrite_ctrl (i : BitVec 5) (b : Byte) : (palWrite i b s).ctrl = s.ctrl := rfl
@[simp] theorem palWrite_mask (i : BitVec 5) (b : Byte) : (palWrite i b s).mask = s.mask := rfl
@[simp] theorem palWrite_v (i : BitVec 5) (b : Byte) : (palWrite i b s).v = s.v := rfl
@[simp] theorem palWrite_t (i : BitVec 5) (b : Byte) : (palWrite i b s).t = s.t := rfl
@[simp] theorem palWrite_x (i : BitVec 5) (b : Byte) : (palWrite i b s).x = s.x := rfl
@[simp] theorem palWrite_w (i : BitVec 5) (b : Byte) : (palWrite i b s).w = s.w := rfl
@[simp] theorem palWrite_oamAddr (i : BitVec 5) (b : Byte) : (palWrite i b s).oamAddr = s.oamAddr := rfl
@[simp] theorem palWrite_ioLatch (i : BitVec 5) (b : Byte) : (palWrite i b s).ioLatch = s.ioLatch := rfl
@[simp] theorem palWrite_readBuffer (i : BitVec 5) (b : Byte) : (palWrite i b s).readBuffer = s.readBuffer := rfl
@[simp] theorem palWrite_busAddr (i : BitVec 5) (b : Byte) : (palWrite i b s).busAddr = s.busAddr := rfl
@[simp] theorem palWrite_ntRam (i : BitVec 5) (b : Byte) : (palWrite i b s).ntRam = s.ntRam := rfl
@[simp] theorem palWrite_palRam (i : BitVec 5) (b : Byte) : (palWrite i b s).palRam = s.palRam.write (palIndex i).toNat (b.setWidth 6) := rfl
@[simp] theorem palWrite_chrFallback (i : BitVec 5) (b : Byte) : (palWrite i b s).chrFallback = s.chrFallback := rfl
@[simp] theorem palWrite_ntLatch (i : BitVec 5) (b : Byte) : (palWrite i b s).ntLatch = s.ntLatch := rfl
@[simp] theorem palWrite_atLatch (i : BitVec 5) (b : Byte) : (palWrite i b s).atLatch = s.atLatch := rfl
@[simp] theorem palWrite_ptLoLatch (i : BitVec 5) (b : Byte) : (palWrite i b s).ptLoLatch = s.ptLoLatch := rfl
@[simp] theorem palWrite_ptHiLatch (i : BitVec 5) (b : Byte) : (palWrite i b s).ptHiLatch = s.ptHiLatch := rfl
@[simp] theorem palWrite_bgPatLo (i : BitVec 5) (b : Byte) : (palWrite i b s).bgPatLo = s.bgPatLo := rfl
@[simp] theorem palWrite_bgPatHi (i : BitVec 5) (b : Byte) : (palWrite i b s).bgPatHi = s.bgPatHi := rfl
@[simp] theorem palWrite_bgAttrLo (i : BitVec 5) (b : Byte) : (palWrite i b s).bgAttrLo = s.bgAttrLo := rfl
@[simp] theorem palWrite_bgAttrHi (i : BitVec 5) (b : Byte) : (palWrite i b s).bgAttrHi = s.bgAttrHi := rfl
@[simp] theorem palWrite_oam (i : BitVec 5) (b : Byte) : (palWrite i b s).oam = s.oam := rfl
@[simp] theorem palWrite_secOam (i : BitVec 5) (b : Byte) : (palWrite i b s).secOam = s.secOam := rfl
@[simp] theorem palWrite_evalN (i : BitVec 5) (b : Byte) : (palWrite i b s).evalN = s.evalN := rfl
@[simp] theorem palWrite_evalM (i : BitVec 5) (b : Byte) : (palWrite i b s).evalM = s.evalM := rfl
@[simp] theorem palWrite_evalFound (i : BitVec 5) (b : Byte) : (palWrite i b s).evalFound = s.evalFound := rfl
@[simp] theorem palWrite_evalSprite0 (i : BitVec 5) (b : Byte) : (palWrite i b s).evalSprite0 = s.evalSprite0 := rfl
@[simp] theorem palWrite_cur (i : BitVec 5) (b : Byte) : (palWrite i b s).cur = s.cur := rfl
@[simp] theorem palWrite_next (i : BitVec 5) (b : Byte) : (palWrite i b s).next = s.next := rfl
@[simp] theorem palWrite_spLoLatch (i : BitVec 5) (b : Byte) : (palWrite i b s).spLoLatch = s.spLoLatch := rfl
@[simp] theorem palWrite_spHiLatch (i : BitVec 5) (b : Byte) : (palWrite i b s).spHiLatch = s.spHiLatch := rfl
@[simp] theorem palWrite_fb (i : BitVec 5) (b : Byte) : (palWrite i b s).fb = s.fb := rfl
@[simp] theorem palWrite_params (i : BitVec 5) (b : Byte) : (palWrite i b s).params = s.params := rfl
@[simp] theorem palWrite_result (i : BitVec 5) (b : Byte) : (palWrite i b s).result = s.result := rfl
@[simp] theorem palWrite_events (i : BitVec 5) (b : Byte) : (palWrite i b s).events = s.events := rfl
@[simp] theorem palWrite_issued (i : BitVec 5) (b : Byte) : (palWrite i b s).issued = s.issued := rfl

/-! oamWrite -/

@[simp] theorem oamWrite_scanline (i b : Byte) : (oamWrite i b s).scanline = s.scanline := rfl
@[simp] theorem oamWrite_dot (i b : Byte) : (oamWrite i b s).dot = s.dot := rfl
@[simp] theorem oamWrite_totalCycles (i b : Byte) : (oamWrite i b s).totalCycles = s.totalCycles := rfl
@[simp] theorem oamWrite_oddFrame (i b : Byte) : (oamWrite i b s).oddFrame = s.oddFrame := rfl
@[simp] theorem oamWrite_vblank (i b : Byte) : (oamWrite i b s).vblank = s.vblank := rfl
@[simp] theorem oamWrite_sprite0Hit (i b : Byte) : (oamWrite i b s).sprite0Hit = s.sprite0Hit := rfl
@[simp] theorem oamWrite_spriteOverflow (i b : Byte) : (oamWrite i b s).spriteOverflow = s.spriteOverflow := rfl
@[simp] theorem oamWrite_nmiPending (i b : Byte) : (oamWrite i b s).nmiPending = s.nmiPending := rfl
@[simp] theorem oamWrite_frameComplete (i b : Byte) : (oamWrite i b s).frameComplete = s.frameComplete := rfl
@[simp] theorem oamWrite_vblankStartDot (i b : Byte) : (oamWrite i b s).vblankStartDot = s.vblankStartDot := rfl
@[simp] theorem oamWrite_inVBlank (i b : Byte) : (oamWrite i b s).inVBlank = s.inVBlank := rfl
@[simp] theorem oamWrite_ctrl (i b : Byte) : (oamWrite i b s).ctrl = s.ctrl := rfl
@[simp] theorem oamWrite_mask (i b : Byte) : (oamWrite i b s).mask = s.mask := rfl
@[simp] theorem oamWrite_v (i b : Byte) : (oamWrite i b s).v = s.v := rfl
@[simp] theorem oamWrite_t (i b : Byte) : (oamWrite i b s).t = s.t := rfl
@[simp] theorem oamWrite_x (i b : Byte) : (oamWrite i b s).x = s.x := rfl
@[simp] theorem oamWrite_w (i b : Byte) : (oamWrite i b s).w = s.w := rfl
@[simp] theorem oamWrite_oamAddr (i b : Byte) : (oamWrite i b s).oamAddr = s.oamAddr := rfl
@[simp] theorem oamWrite_ioLatch (i b : Byte) : (oamWrite i b s).ioLatch = s.ioLatch := rfl
@[simp] theorem oamWrite_readBuffer (i b : Byte) : (oamWrite i b s).readBuffer = s.readBuffer := rfl
@[simp] theorem oamWrite_busAddr (i b : Byte) : (oamWrite i b s).busAddr = s.busAddr := rfl
@[simp] theorem oamWrite_ntRam (i b : Byte) : (oamWrite i b s).ntRam = s.ntRam := rfl
@[simp] theorem oamWrite_palRam (i b : Byte) : (oamWrite i b s).palRam = s.palRam := rfl
@[simp] theorem oamWrite_chrFallback (i b : Byte) : (oamWrite i b s).chrFallback = s.chrFallback := rfl
@[simp] theorem oamWrite_ntLatch (i b : Byte) : (oamWrite i b s).ntLatch = s.ntLatch := rfl
@[simp] theorem oamWrite_atLatch (i b : Byte) : (oamWrite i b s).atLatch = s.atLatch := rfl
@[simp] theorem oamWrite_ptLoLatch (i b : Byte) : (oamWrite i b s).ptLoLatch = s.ptLoLatch := rfl
@[simp] theorem oamWrite_ptHiLatch (i b : Byte) : (oamWrite i b s).ptHiLatch = s.ptHiLatch := rfl
@[simp] theorem oamWrite_bgPatLo (i b : Byte) : (oamWrite i b s).bgPatLo = s.bgPatLo := rfl
@[simp] theorem oamWrite_bgPatHi (i b : Byte) : (oamWrite i b s).bgPatHi = s.bgPatHi := rfl
@[simp] theorem oamWrite_bgAttrLo (i b : Byte) : (oamWrite i b s).bgAttrLo = s.bgAttrLo := rfl
@[simp] theorem oamWrite_bgAttrHi (i b : Byte) : (oamWrite i b s).bgAttrHi = s.bgAttrHi := rfl
@[simp] theorem oamWrite_oam (i b : Byte) : (oamWrite i b s).oam = s.oam.write i.toNat (oamKeeps i b) := rfl
@[simp] theorem oamWrite_secOam (i b : Byte) : (oamWrite i b s).secOam = s.secOam := rfl
@[simp] theorem oamWrite_evalN (i b : Byte) : (oamWrite i b s).evalN = s.evalN := rfl
@[simp] theorem oamWrite_evalM (i b : Byte) : (oamWrite i b s).evalM = s.evalM := rfl
@[simp] theorem oamWrite_evalFound (i b : Byte) : (oamWrite i b s).evalFound = s.evalFound := rfl
@[simp] theorem oamWrite_evalSprite0 (i b : Byte) : (oamWrite i b s).evalSprite0 = s.evalSprite0 := rfl
@[simp] theorem oamWrite_cur (i b : Byte) : (oamWrite i b s).cur = s.cur := rfl
@[simp] theorem oamWrite_next (i b : Byte) : (oamWrite i b s).next = s.next := rfl
@[simp] theorem oamWrite_spLoLatch (i b : Byte) : (oamWrite i b s).spLoLatch = s.spLoLatch := rfl
@[simp] theorem oamWrite_spHiLatch (i b : Byte) : (oamWrite i b s).spHiLatch = s.spHiLatch := rfl
@[simp] theorem oamWrite_fb (i b : Byte) : (oamWrite i b s).fb = s.fb := rfl
@[simp] theorem oamWrite_params (i b : Byte) : (oamWrite i b s).params = s.params := rfl
@[simp] theorem oamWrite_result (i b : Byte) : (oamWrite i b s).result = s.result := rfl
@[simp] theorem oamWrite_events (i b : Byte) : (oamWrite i b s).events = s.events := rfl
@[simp] theorem oamWrite_issued (i b : Byte) : (oamWrite i b s).issued = s.issued := rfl

/-! secWrite -/

@[simp] theorem secWrite_scanline (i : Nat) (b : Byte) : (secWrite i b s).scanline = s.scanline := rfl
@[simp] theorem secWrite_dot (i : Nat) (b : Byte) : (secWrite i b s).dot = s.dot := rfl
@[simp] theorem secWrite_totalCycles (i : Nat) (b : Byte) : (secWrite i b s).totalCycles = s.totalCycles := rfl
@[simp] theorem secWrite_oddFrame (i : Nat) (b : Byte) : (secWrite i b s).oddFrame = s.oddFrame := rfl
@[simp] theorem secWrite_vblank (i : Nat) (b : Byte) : (secWrite i b s).vblank = s.vblank := rfl
@[simp] theorem secWrite_sprite0Hit (i : Nat) (b : Byte) : (secWrite i b s).sprite0Hit = s.sprite0Hit := rfl
@[simp] theorem secWrite_spriteOverflow (i : Nat) (b : Byte) : (secWrite i b s).spriteOverflow = s.spriteOverflow := rfl
@[simp] theorem secWrite_nmiPending (i : Nat) (b : Byte) : (secWrite i b s).nmiPending = s.nmiPending := rfl
@[simp] theorem secWrite_frameComplete (i : Nat) (b : Byte) : (secWrite i b s).frameComplete = s.frameComplete := rfl
@[simp] theorem secWrite_vblankStartDot (i : Nat) (b : Byte) : (secWrite i b s).vblankStartDot = s.vblankStartDot := rfl
@[simp] theorem secWrite_inVBlank (i : Nat) (b : Byte) : (secWrite i b s).inVBlank = s.inVBlank := rfl
@[simp] theorem secWrite_ctrl (i : Nat) (b : Byte) : (secWrite i b s).ctrl = s.ctrl := rfl
@[simp] theorem secWrite_mask (i : Nat) (b : Byte) : (secWrite i b s).mask = s.mask := rfl
@[simp] theorem secWrite_v (i : Nat) (b : Byte) : (secWrite i b s).v = s.v := rfl
@[simp] theorem secWrite_t (i : Nat) (b : Byte) : (secWrite i b s).t = s.t := rfl
@[simp] theorem secWrite_x (i : Nat) (b : Byte) : (secWrite i b s).x = s.x := rfl
@[simp] theorem secWrite_w (i : Nat) (b : Byte) : (secWrite i b s).w = s.w := rfl
@[simp] theorem secWrite_oamAddr (i : Nat) (b : Byte) : (secWrite i b s).oamAddr = s.oamAddr := rfl
@[simp] theorem secWrite_ioLatch (i : Nat) (b : Byte) : (secWrite i b s).ioLatch = s.ioLatch := rfl
@[simp] theorem secWrite_readBuffer (i : Nat) (b : Byte) : (secWrite i b s).readBuffer = s.readBuffer := rfl
@[simp] theorem secWrite_busAddr (i : Nat) (b : Byte) : (secWrite i b s).busAddr = s.busAddr := rfl
@[simp] theorem secWrite_ntRam (i : Nat) (b : Byte) : (secWrite i b s).ntRam = s.ntRam := rfl
@[simp] theorem secWrite_palRam (i : Nat) (b : Byte) : (secWrite i b s).palRam = s.palRam := rfl
@[simp] theorem secWrite_chrFallback (i : Nat) (b : Byte) : (secWrite i b s).chrFallback = s.chrFallback := rfl
@[simp] theorem secWrite_ntLatch (i : Nat) (b : Byte) : (secWrite i b s).ntLatch = s.ntLatch := rfl
@[simp] theorem secWrite_atLatch (i : Nat) (b : Byte) : (secWrite i b s).atLatch = s.atLatch := rfl
@[simp] theorem secWrite_ptLoLatch (i : Nat) (b : Byte) : (secWrite i b s).ptLoLatch = s.ptLoLatch := rfl
@[simp] theorem secWrite_ptHiLatch (i : Nat) (b : Byte) : (secWrite i b s).ptHiLatch = s.ptHiLatch := rfl
@[simp] theorem secWrite_bgPatLo (i : Nat) (b : Byte) : (secWrite i b s).bgPatLo = s.bgPatLo := rfl
@[simp] theorem secWrite_bgPatHi (i : Nat) (b : Byte) : (secWrite i b s).bgPatHi = s.bgPatHi := rfl
@[simp] theorem secWrite_bgAttrLo (i : Nat) (b : Byte) : (secWrite i b s).bgAttrLo = s.bgAttrLo := rfl
@[simp] theorem secWrite_bgAttrHi (i : Nat) (b : Byte) : (secWrite i b s).bgAttrHi = s.bgAttrHi := rfl
@[simp] theorem secWrite_oam (i : Nat) (b : Byte) : (secWrite i b s).oam = s.oam := rfl
@[simp] theorem secWrite_secOam (i : Nat) (b : Byte) : (secWrite i b s).secOam = s.secOam.write (i % 32) b := rfl
@[simp] theorem secWrite_evalN (i : Nat) (b : Byte) : (secWrite i b s).evalN = s.evalN := rfl
@[simp] theorem secWrite_evalM (i : Nat) (b : Byte) : (secWrite i b s).evalM = s.evalM := rfl
@[simp] theorem secWrite_evalFound (i : Nat) (b : Byte) : (secWrite i b s).evalFound = s.evalFound := rfl
@[simp] theorem secWrite_evalSprite0 (i : Nat) (b : Byte) : (secWrite i b s).evalSprite0 = s.evalSprite0 := rfl
@[simp] theorem secWrite_cur (i : Nat) (b : Byte) : (secWrite i b s).cur = s.cur := rfl
@[simp] theorem secWrite_next (i : Nat) (b : Byte) : (secWrite i b s).next = s.next := rfl
@[simp] theorem secWrite_spLoLatch (i : Nat) (b : Byte) : (secWrite i b s).spLoLatch = s.spLoLatch := rfl
@[simp] theorem secWrite_spHiLatch (i : Nat) (b : Byte) : (secWrite i b s).spHiLatch = s.spHiLatch := rfl
@[simp] theorem secWrite_fb (i : Nat) (b : Byte) : (secWrite i b s).fb = s.fb := rfl
@[simp] theorem secWrite_params (i : Nat) (b : Byte) : (secWrite i b s).params = s.params := rfl
@[simp] theorem secWrite_result (i : Nat) (b : Byte) : (secWrite i b s).result = s.result := rfl
@[simp] theorem secWrite_events (i : Nat) (b : Byte) : (secWrite i b s).events = s.events := rfl
@[simp] theorem secWrite_issued (i : Nat) (b : Byte) : (secWrite i b s).issued = s.issued := rfl

/-! setPixel -/

@[simp] theorem setPixel_scanline (x y : Nat) (c : Rgb) : (setPixel x y c s).scanline = s.scanline := rfl
@[simp] theorem setPixel_dot (x y : Nat) (c : Rgb) : (setPixel x y c s).dot = s.dot := rfl
@[simp] theorem setPixel_totalCycles (x y : Nat) (c : Rgb) : (setPixel x y c s).totalCycles = s.totalCycles := rfl
@[simp] theorem setPixel_oddFrame (x y : Nat) (c : Rgb) : (setPixel x y c s).oddFrame = s.oddFrame := rfl
@[simp] theorem setPixel_vblank (x y : Nat) (c : Rgb) : (setPixel x y c s).vblank = s.vblank := rfl
@[simp] theorem setPixel_sprite0Hit (x y : Nat) (c : Rgb) : (setPixel x y c s).sprite0Hit = s.sprite0Hit := rfl
@[simp] theorem setPixel_spriteOverflow (x y : Nat) (c : Rgb) : (setPixel x y c s).spriteOverflow = s.spriteOverflow := rfl
@[simp] theorem setPixel_nmiPending (x y : Nat) (c : Rgb) : (setPixel x y c s).nmiPending = s.nmiPending := rfl
@[simp] theorem setPixel_frameComplete (x y : Nat) (c : Rgb) : (setPixel x y c s).frameComplete = s.frameComplete := rfl
@[simp] theorem setPixel_vblankStartDot (x y : Nat) (c : Rgb) : (setPixel x y c s).vblankStartDot = s.vblankStartDot := rfl
@[simp] theorem setPixel_inVBlank (x y : Nat) (c : Rgb) : (setPixel x y c s).inVBlank = s.inVBlank := rfl
@[simp] theorem setPixel_ctrl (x y : Nat) (c : Rgb) : (setPixel x y c s).ctrl = s.ctrl := rfl
@[simp] theorem setPixel_mask (x y : Nat) (c : Rgb) : (setPixel x y c s).mask = s.mask := rfl
@[simp] theorem setPixel_v (x y : Nat) (c : Rgb) : (setPixel x y c s).v = s.v := rfl
@[simp] theorem setPixel_t (x y : Nat) (c : Rgb) : (setPixel x y c s).t = s.t := rfl
@[simp] theorem setPixel_x (x y : Nat) (c : Rgb) : (setPixel x y c s).x = s.x := rfl
@[simp] theorem setPixel_w (x y : Nat) (c : Rgb) : (setPixel x y c s).w = s.w := rfl
@[simp] theorem setPixel_oamAddr (x y : Nat) (c : Rgb) : (setPixel x y c s).oamAddr = s.oamAddr := rfl
@[simp] theorem setPixel_ioLatch (x y : Nat) (c : Rgb) : (setPixel x y c s).ioLatch = s.ioLatch := rfl
@[simp] theorem setPixel_readBuffer (x y : Nat) (c : Rgb) : (setPixel x y c s).readBuffer = s.readBuffer := rfl
@[simp] theorem setPixel_busAddr (x y : Nat) (c : Rgb) : (setPixel x y c s).busAddr = s.busAddr := rfl
@[simp] theorem setPixel_ntRam (x y : Nat) (c : Rgb) : (setPixel x y c s).ntRam = s.ntRam := rfl
@[simp] theorem setPixel_palRam (x y : Nat) (c : Rgb) : (setPixel x y c s).palRam = s.palRam := rfl
@[simp] theorem setPixel_chrFallback (x y : Nat) (c : Rgb) : (setPixel x y c s).chrFallback = s.chrFallback := rfl
@[simp] theorem setPixel_ntLatch (x y : Nat) (c : Rgb) : (setPixel x y c s).ntLatch = s.ntLatch := rfl
@[simp] theorem setPixel_atLatch (x y : Nat) (c : Rgb) : (setPixel x y c s).atLatch = s.atLatch := rfl
@[simp] theorem setPixel_ptLoLatch (x y : Nat) (c : Rgb) : (setPixel x y c s).ptLoLatch = s.ptLoLatch := rfl
@[simp] theorem setPixel_ptHiLatch (x y : Nat) (c : Rgb) : (setPixel x y c s).ptHiLatch = s.ptHiLatch := rfl
@[simp] theorem setPixel_bgPatLo (x y : Nat) (c : Rgb) : (setPixel x y c s).bgPatLo = s.bgPatLo := rfl
@[simp] theorem setPixel_bgPatHi (x y : Nat) (c : Rgb) : (setPixel x y c s).bgPatHi = s.bgPatHi := rfl
@[simp] theorem setPixel_bgAttrLo (x y : Nat) (c : Rgb) : (setPixel x y c s).bgAttrLo = s.bgAttrLo := rfl
@[simp] theorem setPixel_bgAttrHi (x y : Nat) (c : Rgb) : (setPixel x y c s).bgAttrHi = s.bgAttrHi := rfl
@[simp] theorem setPixel_oam (x y : Nat) (c : Rgb) : (setPixel x y c s).oam = s.oam := rfl
@[simp] theorem setPixel_secOam (x y : Nat) (c : Rgb) : (setPixel x y c s).secOam = s.secOam := rfl
@[simp] theorem setPixel_evalN (x y : Nat) (c : Rgb) : (setPixel x y c s).evalN = s.evalN := rfl
@[simp] theorem setPixel_evalM (x y : Nat) (c : Rgb) : (setPixel x y c s).evalM = s.evalM := rfl
@[simp] theorem setPixel_evalFound (x y : Nat) (c : Rgb) : (setPixel x y c s).evalFound = s.evalFound := rfl
@[simp] theorem setPixel_evalSprite0 (x y : Nat) (c : Rgb) : (setPixel x y c s).evalSprite0 = s.evalSprite0 := rfl
@[simp] theorem setPixel_cur (x y : Nat) (c : Rgb) : (setPixel x y c s).cur = s.cur := rfl
@[simp] theorem setPixel_next (x y : Nat) (c : Rgb) : (setPixel x y c s).next = s.next := rfl
@[simp] theorem setPixel_spLoLatch (x y : Nat) (c : Rgb) : (setPixel x y c s).spLoLatch = s.spLoLatch := rfl
@[simp] theorem setPixel_spHiLatch (x y : Nat) (c : Rgb) : (setPixel x y c s).spHiLatch = s.spHiLatch := rfl
@[simp] theorem setPixel_fb (x y : Nat) (c : Rgb) : (setPixel x y c s).fb = putCell s.fb (256 * y + x) c := rfl
@[simp] theorem setPixel_params (x y : Nat) (c : Rgb) : (setPixel x y c s).params = s.params := rfl
@[simp] theorem setPixel_result (x y : Nat) (c : Rgb) : (setPixel x y c s).result = s.result := rfl
@[simp] theorem setPixel_events (x y : Nat) (c : Rgb) : (setPixel x y c s).events = .setPixel x y c :: s.events := rfl
@[simp] theorem setPixel_issued (x y : Nat) (c : Rgb) : (setPixel x y c s).issued = s.issued := rfl

/-! enterVBlank -/

@[simp] theorem enterVBlank_scanline : (enterVBlank s).scanline = s.scanline := rfl
@[simp] theorem enterVBlank_dot : (enterVBlank s).dot = s.dot := rfl
@[simp] theorem enterVBlank_totalCycles : (enterVBlank s).totalCycles = s.totalCycles := rfl
@[simp] theorem enterVBlank_oddFrame : (enterVBlank s).oddFrame = s.oddFrame := rfl
@[simp] theorem enterVBlank_vblank : (enterVBlank s).vblank = true := rfl
@[simp] theorem enterVBlank_sprite0Hit : (enterVBlank s).sprite0Hit = s.sprite0Hit := rfl
@[simp] theorem enterVBlank_spriteOverflow : (enterVBlank s).spriteOverflow = s.spriteOverflow := rfl
@[simp] theorem enterVBlank_nmiPending : (enterVBlank s).nmiPending = (s.nmiPending || nmiEnabled s.ctrl) := rfl
@[simp] theorem enterVBlank_frameComplete : (enterVBlank s).frameComplete = true := rfl
@[simp] theorem enterVBlank_vblankStartDot : (enterVBlank s).vblankStartDot = true := rfl
@[simp] theorem enterVBlank_inVBlank : (enterVBlank s).inVBlank = true := rfl
@[simp] theorem enterVBlank_ctrl : (enterVBlank s).ctrl = s.ctrl := rfl
@[simp] theorem enterVBlank_mask : (enterVBlank s).mask = s.mask := rfl
@[simp] theorem enterVBlank_v : (enterVBlank s).v = s.v := rfl
@[simp] theorem enterVBlank_t : (enterVBlank s).t = s.t := rfl
@[simp] theorem enterVBlank_x : (enterVBlank s).x = s.x := rfl
@[simp] theorem enterVBlank_w : (enterVBlank s).w = s.w := rfl
@[simp] theorem enterVBlank_oamAddr : (enterVBlank s).oamAddr = s.oamAddr := rfl
@[simp] theorem enterVBlank_ioLatch : (enterVBlank s).ioLatch = s.ioLatch := rfl
@[simp] theorem enterVBlank_readBuffer : (enterVBlank s).readBuffer = s.readBuffer := rfl
@[simp] theorem enterVBlank_busAddr : (enterVBlank s).busAddr = s.busAddr := rfl
@[simp] theorem enterVBlank_ntRam : (enterVBlank s).ntRam = s.ntRam := rfl
@[simp] theorem enterVBlank_palRam : (enterVBlank s).palRam = s.palRam := rfl
@[simp] theorem enterVBlank_chrFallback : (enterVBlank s).chrFallback = s.chrFallback := rfl
@[simp] theorem enterVBlank_ntLatch : (enterVBlank s).ntLatch = s.ntLatch := rfl
@[simp] theorem enterVBlank_atLatch : (enterVBlank s).atLatch = s.atLatch := rfl
@[simp] theorem enterVBlank_ptLoLatch : (enterVBlank s).ptLoLatch = s.ptLoLatch := rfl
@[simp] theorem enterVBlank_ptHiLatch : (enterVBlank s).ptHiLatch = s.ptHiLatch := rfl
@[simp] theorem enterVBlank_bgPatLo : (enterVBlank s).bgPatLo = s.bgPatLo := rfl
@[simp] theorem enterVBlank_bgPatHi : (enterVBlank s).bgPatHi = s.bgPatHi := rfl
@[simp] theorem enterVBlank_bgAttrLo : (enterVBlank s).bgAttrLo = s.bgAttrLo := rfl
@[simp] theorem enterVBlank_bgAttrHi : (enterVBlank s).bgAttrHi = s.bgAttrHi := rfl
@[simp] theorem enterVBlank_oam : (enterVBlank s).oam = s.oam := rfl
@[simp] theorem enterVBlank_secOam : (enterVBlank s).secOam = s.secOam := rfl
@[simp] theorem enterVBlank_evalN : (enterVBlank s).evalN = s.evalN := rfl
@[simp] theorem enterVBlank_evalM : (enterVBlank s).evalM = s.evalM := rfl
@[simp] theorem enterVBlank_evalFound : (enterVBlank s).evalFound = s.evalFound := rfl
@[simp] theorem enterVBlank_evalSprite0 : (enterVBlank s).evalSprite0 = s.evalSprite0 := rfl
@[simp] theorem enterVBlank_cur : (enterVBlank s).cur = s.cur := rfl
@[simp] theorem enterVBlank_next : (enterVBlank s).next = s.next := rfl
@[simp] theorem enterVBlank_spLoLatch : (enterVBlank s).spLoLatch = s.spLoLatch := rfl
@[simp] theorem enterVBlank_spHiLatch : (enterVBlank s).spHiLatch = s.spHiLatch := rfl
@[simp] theorem enterVBlank_fb : (enterVBlank s).fb = s.fb := rfl
@[simp] theorem enterVBlank_params : (enterVBlank s).params = s.params := rfl
@[simp] theorem enterVBlank_result : (enterVBlank s).result = s.result := rfl
@[simp] theorem enterVBlank_events : (enterVBlank s).events = s.events := rfl
@[simp] theorem enterVBlank_issued : (enterVBlank s).issued = s.issued := rfl

/-! exitVBlank -/

@[simp] theorem exitVBlank_scanline : (exitVBlank s).scanline = s.scanline := rfl
@[simp] theorem exitVBlank_dot : (exitVBlank s).dot = s.dot := rfl
@[simp] theorem exitVBlank_totalCycles : (exitVBlank s).totalCycles = s.totalCycles := rfl
@[simp] theorem exitVBlank_oddFrame : (exitVBlank s).oddFrame = s.oddFrame := rfl
@[simp] theorem exitVBlank_vblank : (exitVBlank s).vblank = false := rfl
@[simp] theorem exitVBlank_sprite0Hit : (exitVBlank s).sprite0Hit = false := rfl
@[simp] theorem exitVBlank_spriteOverflow : (exitVBlank s).spriteOverflow = false := rfl
@[simp] theorem exitVBlank_nmiPending : (exitVBlank s).nmiPending = false := rfl
@[simp] theorem exitVBlank_frameComplete : (exitVBlank s).frameComplete = s.frameComplete := rfl
@[simp] theorem exitVBlank_vblankStartDot : (exitVBlank s).vblankStartDot = s.vblankStartDot := rfl
@[simp] theorem exitVBlank_inVBlank : (exitVBlank s).inVBlank = false := rfl
@[simp] theorem exitVBlank_ctrl : (exitVBlank s).ctrl = s.ctrl := rfl
@[simp] theorem exitVBlank_mask : (exitVBlank s).mask = s.mask := rfl
@[simp] theorem exitVBlank_v : (exitVBlank s).v = s.v := rfl
@[simp] theorem exitVBlank_t : (exitVBlank s).t = s.t := rfl
@[simp] theorem exitVBlank_x : (exitVBlank s).x = s.x := rfl
@[simp] theorem exitVBlank_w : (exitVBlank s).w = s.w := rfl
@[simp] theorem exitVBlank_oamAddr : (exitVBlank s).oamAddr = s.oamAddr := rfl
@[simp] theorem exitVBlank_ioLatch : (exitVBlank s).ioLatch = s.ioLatch := rfl
@[simp] theorem exitVBlank_readBuffer : (exitVBlank s).readBuffer = s.readBuffer := rfl
@[simp] theorem exitVBlank_busAddr : (exitVBlank s).busAddr = s.busAddr := rfl
@[simp] theorem exitVBlank_ntRam : (exitVBlank s).ntRam = s.ntRam := rfl
@[simp] theorem exitVBlank_palRam : (exitVBlank s).palRam = s.palRam := rfl
@[simp] theorem exitVBlank_chrFallback : (exitVBlank s).chrFallback = s.chrFallback := rfl
@[simp] theorem exitVBlank_ntLatch : (exitVBlank s).ntLatch = s.ntLatch := rfl
@[simp] theorem exitVBlank_atLatch : (exitVBlank s).atLatch = s.atLatch := rfl
@[simp] theorem exitVBlank_ptLoLatch : (exitVBlank s).ptLoLatch = s.ptLoLatch := rfl
@[simp] theorem exitVBlank_ptHiLatch : (exitVBlank s).ptHiLatch = s.ptHiLatch := rfl
@[simp] theorem exitVBlank_bgPatLo : (exitVBlank s).bgPatLo = s.bgPatLo := rfl
@[simp] theorem exitVBlank_bgPatHi : (exitVBlank s).bgPatHi = s.bgPatHi := rfl
@[simp] theorem exitVBlank_bgAttrLo : (exitVBlank s).bgAttrLo = s.bgAttrLo := rfl
@[simp] theorem exitVBlank_bgAttrHi : (exitVBlank s).bgAttrHi = s.bgAttrHi := rfl
@[simp] theorem exitVBlank_oam : (exitVBlank s).oam = s.oam := rfl
@[simp] theorem exitVBlank_secOam : (exitVBlank s).secOam = s.secOam := rfl
@[simp] theorem exitVBlank_evalN : (exitVBlank s).evalN = s.evalN := rfl
@[simp] theorem exitVBlank_evalM : (exitVBlank s).evalM = s.evalM := rfl
@[simp] theorem exitVBlank_evalFound : (exitVBlank s).evalFound = s.evalFound := rfl
@[simp] theorem exitVBlank_evalSprite0 : (exitVBlank s).evalSprite0 = s.evalSprite0 := rfl
@[simp] theorem exitVBlank_cur : (exitVBlank s).cur = s.cur := rfl
@[simp] theorem exitVBlank_next : (exitVBlank s).next = s.next := rfl
@[simp] theorem exitVBlank_spLoLatch : (exitVBlank s).spLoLatch = s.spLoLatch := rfl
@[simp] theorem exitVBlank_spHiLatch : (exitVBlank s).spHiLatch = s.spHiLatch := rfl
@[simp] theorem exitVBlank_fb : (exitVBlank s).fb = s.fb := rfl
@[simp] theorem exitVBlank_params : (exitVBlank s).params = s.params := rfl
@[simp] theorem exitVBlank_result : (exitVBlank s).result = s.result := rfl
@[simp] theorem exitVBlank_events : (exitVBlank s).events = s.events := rfl
@[simp] theorem exitVBlank_issued : (exitVBlank s).issued = s.issued := rfl

/-! shiftRegisters -/

@[simp] theorem shiftRegisters_scanline : (shiftRegisters s).scanline = s.scanline := rfl
@[simp] theorem shiftRegisters_dot : (shiftRegisters s).dot = s.dot := rfl
@[simp] theorem shiftRegisters_totalCycles : (shiftRegisters s).totalCycles = s.totalCycles := rfl
@[simp] theorem shiftRegisters_oddFrame : (shiftRegisters s).oddFrame = s.oddFrame := rfl
@[simp] theorem shiftRegisters_vblank : (shiftRegisters s).vblank = s.vblank := rfl
@[simp] theorem shiftRegisters_sprite0Hit : (shiftRegisters s).sprite0Hit = s.sprite0Hit := rfl
@[simp] theorem shiftRegisters_spriteOverflow : (shiftRegisters s).spriteOverflow = s.spriteOverflow := rfl
@[simp] theorem shiftRegisters_nmiPending : (shiftRegisters s).nmiPending = s.nmiPending := rfl
@[simp] theorem shiftRegisters_frameComplete : (shiftRegisters s).frameComplete = s.frameComplete := rfl
@[simp] theorem shiftRegisters_vblankStartDot : (shiftRegisters s).vblankStartDot = s.vblankStartDot := rfl
@[simp] theorem shiftRegisters_inVBlank : (shiftRegisters s).inVBlank = s.inVBlank := rfl
@[simp] theorem shiftRegisters_ctrl : (shiftRegisters s).ctrl = s.ctrl := rfl
@[simp] theorem shiftRegisters_mask : (shiftRegisters s).mask = s.mask := rfl
@[simp] theorem shiftRegisters_v : (shiftRegisters s).v = s.v := rfl
@[simp] theorem shiftRegisters_t : (shiftRegisters s).t = s.t := rfl
@[simp] theorem shiftRegisters_x : (shiftRegisters s).x = s.x := rfl
@[simp] theorem shiftRegisters_w : (shiftRegisters s).w = s.w := rfl
@[simp] theorem shiftRegisters_oamAddr : (shiftRegisters s).oamAddr = s.oamAddr := rfl
@[simp] theorem shiftRegisters_ioLatch : (shiftRegisters s).ioLatch = s.ioLatch := rfl
@[simp] theorem shiftRegisters_readBuffer : (shiftRegisters s).readBuffer = s.readBuffer := rfl
@[simp] theorem shiftRegisters_busAddr : (shiftRegisters s).busAddr = s.busAddr := rfl
@[simp] theorem shiftRegisters_ntRam : (shiftRegisters s).ntRam = s.ntRam := rfl
@[simp] theorem shiftRegisters_palRam : (shiftRegisters s).palRam = s.palRam := rfl
@[simp] theorem shiftRegisters_chrFallback : (shiftRegisters s).chrFallback = s.chrFallback := rfl
@[simp] theorem shiftRegisters_ntLatch : (shiftRegisters s).ntLatch = s.ntLatch := rfl
@[simp] theorem shiftRegisters_atLatch : (shiftRegisters s).atLatch = s.atLatch := rfl
@[simp] theorem shiftRegisters_ptLoLatch : (shiftRegisters s).ptLoLatch = s.ptLoLatch := rfl
@[simp] theorem shiftRegisters_ptHiLatch : (shiftRegisters s).ptHiLatch = s.ptHiLatch := rfl
@[simp] theorem shiftRegisters_bgPatLo : (shiftRegisters s).bgPatLo = s.bgPatLo <<< 1 := rfl
@[simp] theorem shiftRegisters_bgPatHi : (shiftRegisters s).bgPatHi = s.bgPatHi <<< 1 := rfl
@[simp] theorem shiftRegisters_bgAttrLo : (shiftRegisters s).bgAttrLo = s.bgAttrLo <<< 1 := rfl
@[simp] theorem shiftRegisters_bgAttrHi : (shiftRegisters s).bgAttrHi = s.bgAttrHi <<< 1 := rfl
@[simp] theorem shiftRegisters_oam : (shiftRegisters s).oam = s.oam := rfl
@[simp] theorem shiftRegisters_secOam : (shiftRegisters s).secOam = s.secOam := rfl
@[simp] theorem shiftRegisters_evalN : (shiftRegisters s).evalN = s.evalN := rfl
@[simp] theorem shiftRegisters_evalM : (shiftRegisters s).evalM = s.evalM := rfl
@[simp] theorem shiftRegisters_evalFound : (shiftRegisters s).evalFound = s.evalFound := rfl
@[simp] theorem shiftRegisters_evalSprite0 : (shiftRegisters s).evalSprite0 = s.evalSprite0 := rfl
@[simp] theorem shiftRegisters_cur : (shiftRegisters s).cur = s.cur := rfl
@[simp] theorem shiftRegisters_next : (shiftRegisters s).next = s.next := rfl
@[simp] theorem shiftRegisters_spLoLatch : (shiftRegisters s).spLoLatch = s.spLoLatch := rfl
@[simp] theorem shiftRegisters_spHiLatch : (shiftRegisters s).spHiLatch = s.spHiLatch := rfl
@[simp] theorem shiftRegisters_fb : (shiftRegisters s).fb = s.fb := rfl
@[simp] theorem shiftRegisters_params : (shiftRegisters s).params = s.params := rfl
@[simp] theorem shiftRegisters_result : (shiftRegisters s).result = s.result := rfl
@[simp] theorem shiftRegisters_events : (shiftRegisters s).events = s.events := rfl
@[simp] theorem shiftRegisters_issued : (shiftRegisters s).issued = s.issued := rfl

/-! incrementCoarseX -/

@[simp] theorem incrementCoarseX_scanline : (incrementCoarseX s).scanline = s.scanline := rfl
@[simp] theorem incrementCoarseX_dot : (incrementCoarseX s).dot = s.dot := rfl
@[simp] theorem incrementCoarseX_totalCycles : (incrementCoarseX s).totalCycles = s.totalCycles := rfl
@[simp] theorem incrementCoarseX_oddFrame : (incrementCoarseX s).oddFrame = s.oddFrame := rfl
@[simp] theorem incrementCoarseX_vblank : (incrementCoarseX s).vblank = s.vblank := rfl
@[simp] theorem incrementCoarseX_sprite0Hit : (incrementCoarseX s).sprite0Hit = s.sprite0Hit := rfl
@[simp] theorem incrementCoarseX_spriteOverflow : (incrementCoarseX s).spriteOverflow = s.spriteOverflow := rfl
@[simp] theorem incrementCoarseX_nmiPending : (incrementCoarseX s).nmiPending = s.nmiPending := rfl
@[simp] theorem incrementCoarseX_frameComplete : (incrementCoarseX s).frameComplete = s.frameComplete := rfl
@[simp] theorem incrementCoarseX_vblankStartDot : (incrementCoarseX s).vblankStartDot = s.vblankStartDot := rfl
@[simp] theorem incrementCoarseX_inVBlank : (incrementCoarseX s).inVBlank = s.inVBlank := rfl
@[simp] theorem incrementCoarseX_ctrl : (incrementCoarseX s).ctrl = s.ctrl := rfl
@[simp] theorem incrementCoarseX_mask : (incrementCoarseX s).mask = s.mask := rfl
@[simp] theorem incrementCoarseX_v : (incrementCoarseX s).v = incCoarseX s.v := rfl
@[simp] theorem incrementCoarseX_t : (incrementCoarseX s).t = s.t := rfl
@[simp] theorem incrementCoarseX_x : (incrementCoarseX s).x = s.x := rfl
@[simp] theorem incrementCoarseX_w : (incrementCoarseX s).w = s.w := rfl
@[simp] theorem incrementCoarseX_oamAddr : (incrementCoarseX s).oamAddr = s.oamAddr := rfl
@[simp] theorem incrementCoarseX_ioLatch : (incrementCoarseX s).ioLatch = s.ioLatch := rfl
@[simp] theorem incrementCoarseX_readBuffer : (incrementCoarseX s).readBuffer = s.readBuffer := rfl
@[simp] theorem incrementCoarseX_busAddr : (incrementCoarseX s).busAddr = s.busAddr := rfl
@[simp] theorem incrementCoarseX_ntRam : (incrementCoarseX s).ntRam = s.ntRam := rfl
@[simp] theorem incrementCoarseX_palRam : (incrementCoarseX s).palRam = s.palRam := rfl
@[simp] theorem incrementCoarseX_chrFallback : (incrementCoarseX s).chrFallback = s.chrFallback := rfl
@[simp] theorem incrementCoarseX_ntLatch : (incrementCoarseX s).ntLatch = s.ntLatch := rfl
@[simp] theorem incrementCoarseX_atLatch : (incrementCoarseX s).atLatch = s.atLatch := rfl
@[simp] theorem incrementCoarseX_ptLoLatch : (incrementCoarseX s).ptLoLatch = s.ptLoLatch := rfl
@[simp] theorem incrementCoarseX_ptHiLatch : (incrementCoarseX s).ptHiLatch = s.ptHiLatch := rfl
@[simp] theorem incrementCoarseX_bgPatLo : (incrementCoarseX s).bgPatLo = s.bgPatLo := rfl
@[simp] theorem incrementCoarseX_bgPatHi : (incrementCoarseX s).bgPatHi = s.bgPatHi := rfl
@[simp] theorem incrementCoarseX_bgAttrLo : (incrementCoarseX s).bgAttrLo = s.bgAttrLo := rfl
@[simp] theorem incrementCoarseX_bgAttrHi : (incrementCoarseX s).bgAttrHi = s.bgAttrHi := rfl
@[simp] theorem incrementCoarseX_oam : (incrementCoarseX s).oam = s.oam := rfl
@[simp] theorem incrementCoarseX_secOam : (incrementCoarseX s).secOam = s.secOam := rfl
@[simp] theorem incrementCoarseX_evalN : (incrementCoarseX s).evalN = s.evalN := rfl
@[simp] theorem incrementCoarseX_evalM : (incrementCoarseX s).evalM = s.evalM := rfl
@[simp] theorem incrementCoarseX_evalFound : (incrementCoarseX s).evalFound = s.evalFound := rfl
@[simp] theorem incrementCoarseX_evalSprite0 : (incrementCoarseX s).evalSprite0 = s.evalSprite0 := rfl
@[simp] theorem incrementCoarseX_cur : (incrementCoarseX s).cur = s.cur := rfl
@[simp] theorem incrementCoarseX_next : (incrementCoarseX s).next = s.next := rfl
@[simp] theorem incrementCoarseX_spLoLatch : (incrementCoarseX s).spLoLatch = s.spLoLatch := rfl
@[simp] theorem incrementCoarseX_spHiLatch : (incrementCoarseX s).spHiLatch = s.spHiLatch := rfl
@[simp] theorem incrementCoarseX_fb : (incrementCoarseX s).fb = s.fb := rfl
@[simp] theorem incrementCoarseX_params : (incrementCoarseX s).params = s.params := rfl
@[simp] theorem incrementCoarseX_result : (incrementCoarseX s).result = s.result := rfl
@[simp] theorem incrementCoarseX_events : (incrementCoarseX s).events = s.events := rfl
@[simp] theorem incrementCoarseX_issued : (incrementCoarseX s).issued = s.issued := rfl

/-! incrementFineY -/

@[simp] theorem incrementFineY_scanline : (incrementFineY s).scanline = s.scanline := rfl
@[simp] theorem incrementFineY_dot : (incrementFineY s).dot = s.dot := rfl
@[simp] theorem incrementFineY_totalCycles : (incrementFineY s).totalCycles = s.totalCycles := rfl
@[simp] theorem incrementFineY_oddFrame : (incrementFineY s).oddFrame = s.oddFrame := rfl
@[simp] theorem incrementFineY_vblank : (incrementFineY s).vblank = s.vblank := rfl
@[simp] theorem incrementFineY_sprite0Hit : (incrementFineY s).sprite0Hit = s.sprite0Hit := rfl
@[simp] theorem incrementFineY_spriteOverflow : (incrementFineY s).spriteOverflow = s.spriteOverflow := rfl
@[simp] theorem incrementFineY_nmiPending : (incrementFineY s).nmiPending = s.nmiPending := rfl
@[simp] theorem incrementFineY_frameComplete : (incrementFineY s).frameComplete = s.frameComplete := rfl
@[simp] theorem incrementFineY_vblankStartDot : (incrementFineY s).vblankStartDot = s.vblankStartDot := rfl
@[simp] theorem incrementFineY_inVBlank : (incrementFineY s).inVBlank = s.inVBlank := rfl
@[simp] theorem incrementFineY_ctrl : (incrementFineY s).ctrl = s.ctrl := rfl
@[simp] theorem incrementFineY_mask : (incrementFineY s).mask = s.mask := rfl
@[simp] theorem incrementFineY_v : (incrementFineY s).v = incFineY s.v := rfl
@[simp] theorem incrementFineY_t : (incrementFineY s).t = s.t := rfl
@[simp] theorem incrementFineY_x : (incrementFineY s).x = s.x := rfl
@[simp] theorem incrementFineY_w : (incrementFineY s).w = s.w := rfl
@[simp] theorem incrementFineY_oamAddr : (incrementFineY s).oamAddr = s.oamAddr := rfl
@[simp] theorem incrementFineY_ioLatch : (incrementFineY s).ioLatch = s.ioLatch := rfl
@[simp] theorem incrementFineY_readBuffer : (incrementFineY s).readBuffer = s.readBuffer := rfl
@[simp] theorem incrementFineY_busAddr : (incrementFineY s).busAddr = s.busAddr := rfl
@[simp] theorem incrementFineY_ntRam : (incrementFineY s).ntRam = s.ntRam := rfl
@[simp] theorem incrementFineY_palRam : (incrementFineY s).palRam = s.palRam := rfl
@[simp] theorem incrementFineY_chrFallback : (incrementFineY s).chrFallback = s.chrFallback := rfl
@[simp] theorem incrementFineY_ntLatch : (incrementFineY s).ntLatch = s.ntLatch := rfl
@[simp] theorem incrementFineY_atLatch : (incrementFineY s).atLatch = s.atLatch := rfl
@[simp] theorem incrementFineY_ptLoLatch : (incrementFineY s).ptLoLatch = s.ptLoLatch := rfl
@[simp] theorem incrementFineY_ptHiLatch : (incrementFineY s).ptHiLatch = s.ptHiLatch := rfl
@[simp] theorem incrementFineY_bgPatLo : (incrementFineY s).bgPatLo = s.bgPatLo := rfl
@[simp] theorem incrementFineY_bgPatHi : (incrementFineY s).bgPatHi = s.bgPatHi := rfl
@[simp] theorem incrementFineY_bgAttrLo : (incrementFineY s).bgAttrLo = s.bgAttrLo := rfl
@[simp] theorem incrementFineY_bgAttrHi : (incrementFineY s).bgAttrHi = s.bgAttrHi := rfl
@[simp] theorem incrementFineY_oam : (incrementFineY s).oam = s.oam := rfl
@[simp] theorem incrementFineY_secOam : (incrementFineY s).secOam = s.secOam := rfl
@[simp] theorem incrementFineY_evalN : (incrementFineY s).evalN = s.evalN := rfl
@[simp] theorem incrementFineY_evalM : (incrementFineY s).evalM = s.evalM := rfl
@[simp] theorem incrementFineY_evalFound : (incrementFineY s).evalFound = s.evalFound := rfl
@[simp] theorem incrementFineY_evalSprite0 : (incrementFineY s).evalSprite0 = s.evalSprite0 := rfl
@[simp] theorem incrementFineY_cur : (incrementFineY s).cur = s.cur := rfl
@[simp] theorem incrementFineY_next : (incrementFineY s).next = s.next := rfl
@[simp] theorem incrementFineY_spLoLatch : (incrementFineY s).spLoLatch = s.spLoLatch := rfl
@[simp] theorem incrementFineY_spHiLatch : (incrementFineY s).spHiLatch = s.spHiLatch := rfl
@[simp] theorem incrementFineY_fb : (incrementFineY s).fb = s.fb := rfl
@[simp] theorem incrementFineY_params : (incrementFineY s).params = s.params := rfl
@[simp] theorem incrementFineY_result : (incrementFineY s).result = s.result := rfl
@[simp] theorem incrementFineY_events : (incrementFineY s).events = s.events := rfl
@[simp] theorem incrementFineY_issued : (incrementFineY s).issued = s.issued := rfl

/-! swapBuffers -/

@[simp] theorem swapBuffers_scanline : (swapBuffers s).scanline = s.scanline := rfl
@[simp] theorem swapBuffers_dot : (swapBuffers s).dot = s.dot := rfl
@[simp] theorem swapBuffers_totalCycles : (swapBuffers s).totalCycles = s.totalCycles := rfl
@[simp] theorem swapBuffers_oddFrame : (swapBuffers s).oddFrame = s.oddFrame := rfl
@[simp] theorem swapBuffers_vblank : (swapBuffers s).vblank = s.vblank := rfl
@[simp] theorem swapBuffers_sprite0Hit : (swapBuffers s).sprite0Hit = s.sprite0Hit := rfl
@[simp] theorem swapBuffers_spriteOverflow : (swapBuffers s).spriteOverflow = s.spriteOverflow := rfl
@[simp] theorem swapBuffers_nmiPending : (swapBuffers s).nmiPending = s.nmiPending := rfl
@[simp] theorem swapBuffers_frameComplete : (swapBuffers s).frameComplete = s.frameComplete := rfl
@[simp] theorem swapBuffers_vblankStartDot : (swapBuffers s).vblankStartDot = s.vblankStartDot := rfl
@[simp] theorem swapBuffers_inVBlank : (swapBuffers s).inVBlank = s.inVBlank := rfl
@[simp] theorem swapBuffers_ctrl : (swapBuffers s).ctrl = s.ctrl := rfl
@[simp] theorem swapBuffers_mask : (swapBuffers s).mask = s.mask := rfl
@[simp] theorem swapBuffers_v : (swapBuffers s).v = s.v := rfl
@[simp] theorem swapBuffers_t : (swapBuffers s).t = s.t := rfl
@[simp] theorem swapBuffers_x : (swapBuffers s).x = s.x := rfl
@[simp] theorem swapBuffers_w : (swapBuffers s).w = s.w := rfl
@[simp] theorem swapBuffers_oamAddr : (swapBuffers s).oamAddr = s.oamAddr := rfl
@[simp] theorem swapBuffers_ioLatch : (swapBuffers s).ioLatch = s.ioLatch := rfl
@[simp] theorem swapBuffers_readBuffer : (swapBuffers s).readBuffer = s.readBuffer := rfl
@[simp] theorem swapBuffers_busAddr : (swapBuffers s).busAddr = s.busAddr := rfl
@[simp] theorem swapBuffers_ntRam : (swapBuffers s).ntRam = s.ntRam := rfl
@[simp] theorem swapBuffers_palRam : (swapBuffers s).palRam = s.palRam := rfl
@[simp] theorem swapBuffers_chrFallback : (swapBuffers s).chrFallback = s.chrFallback := rfl
@[simp] theorem swapBuffers_ntLatch : (swapBuffers s).ntLatch = s.ntLatch := rfl
@[simp] theorem swapBuffers_atLatch : (swapBuffers s).atLatch = s.atLatch := rfl
@[simp] theorem swapBuffers_ptLoLatch : (swapBuffers s).ptLoLatch = s.ptLoLatch := rfl
@[simp] theorem swapBuffers_ptHiLatch : (swapBuffers s).ptHiLatch = s.ptHiLatch := rfl
@[simp] theorem swapBuffers_bgPatLo : (swapBuffers s).bgPatLo = s.bgPatLo := rfl
@[simp] theorem swapBuffers_bgPatHi : (swapBuffers s).bgPatHi = s.bgPatHi := rfl
@[simp] theorem swapBuffers_bgAttrLo : (swapBuffers s).bgAttrLo = s.bgAttrLo := rfl
@[simp] theorem swapBuffers_bgAttrHi : (swapBuffers s).bgAttrHi = s.bgAttrHi := rfl
@[simp] theorem swapBuffers_oam : (swapBuffers s).oam = s.oam := rfl
@[simp] theorem swapBuffers_secOam : (swapBuffers s).secOam = s.secOam := rfl
@[simp] theorem swapBuffers_evalN : (swapBuffers s).evalN = s.evalN := rfl
@[simp] theorem swapBuffers_evalM : (swapBuffers s).evalM = s.evalM := rfl
@[simp] theorem swapBuffers_evalFound : (swapBuffers s).evalFound = s.evalFound := rfl
@[simp] theorem swapBuffers_evalSprite0 : (swapBuffers s).evalSprite0 = s.evalSprite0 := rfl
@[simp] theorem swapBuffers_cur : (swapBuffers s).cur = s.next := rfl
@[simp] theorem swapBuffers_next : (swapBuffers s).next = s.cur := rfl
@[simp] theorem swapBuffers_spLoLatch : (swapBuffers s).spLoLatch = s.spLoLatch := rfl
@[simp] theorem swapBuffers_spHiLatch : (swapBuffers s).spHiLatch = s.spHiLatch := rfl
@[simp] theorem swapBuffers_fb : (swapBuffers s).fb = s.fb := rfl
@[simp] theorem swapBuffers_params : (swapBuffers s).params = s.params := rfl
@[simp] theorem swapBuffers_result : (swapBuffers s).result = s.result := rfl
@[simp] theorem swapBuffers_events : (swapBuffers s).events = s.events := rfl
@[simp] theorem swapBuffers_issued : (swapBuffers s).issued = s.issued := rfl

end Sys2Proof.Machine
end

