-- ==== Sys2Proof/Laws/Ops.lean ====
section
/-! SUPPORT. What each shared operation can do, said once: the bus and memory accesses in closed form, and the fields each
sub-step of the background, sprite and data-port work leaves alone. -/

namespace Sys2Proof.Machine

variable (s : State)

/-- The calls recorded after placing an address (R73). -/
def busEvents (a : BusAddr) (s : State) : List Event :=
  if a ≠ s.busAddr ∧ s.params.mapperAttached = true then .addressBusChanged a :: s.events else s.events

/-- The byte a read answers (R62, R70). -/
def busByte (a : BusAddr) (s : State) : Byte :=
  if a ≤ 0x1FFF#14 then
    if s.params.mapperAttached then Config.mapperReadChr (busEvents a s) a else s.chrFallback.read a.toNat
  else if a ≤ 0x3EFF#14 then ntRead a s
  else palRead (a.setWidth 5) s

/-- The calls recorded after a read (R71, R73). -/
def readEvents (a : BusAddr) (s : State) : List Event :=
  if a ≤ 0x1FFF#14 ∧ s.params.mapperAttached = true then .readChr a (busByte a s) :: busEvents a s else busEvents a s

/-- Placing an address writes `busAddr` and the record of calls, and nothing else. -/
theorem busPlace_eq (a : BusAddr) : busPlace a s = { s with busAddr := a, events := busEvents a s } := by
  unfold busPlace busEvents
  by_cases h : a = s.busAddr
  · subst h
    simp
  · by_cases hm : s.params.mapperAttached = true <;> simp [h, hm, record]

/-- A read writes `busAddr` and the record of calls, and nothing else. -/
theorem memRead_eq (a : BusAddr) :
    memRead a s = (busByte a s, { s with busAddr := a, events := readEvents a s }) := by
  unfold memRead readEvents busByte
  simp only [busPlace_eq]
  by_cases h1 : a ≤ 0x1FFF#14
  · by_cases hm : s.params.mapperAttached = true <;> simp [h1, hm, chrRead, record]
  · by_cases h2 : a ≤ 0x3EFF#14 <;> simp [h1, h2, ntRead, palRead, palEntry]

theorem memRead_byte (a : BusAddr) : (memRead a s).1 = busByte a s := by rw [memRead_eq]

theorem memRead_state (a : BusAddr) :
    (memRead a s).2 = { s with busAddr := a, events := readEvents a s } := by rw [memRead_eq]

/-- A write reaches exactly one of the three memories by its address, or the mapper (R62, R70). -/
theorem memWrite_eq (a : BusAddr) (b : Byte) :
    memWrite a b s = { s with
      busAddr := a
      events := if a ≤ 0x1FFF#14 ∧ s.params.mapperAttached = true then .writeChr a b :: busEvents a s else busEvents a s
      chrFallback := if a ≤ 0x1FFF#14 ∧ s.params.mapperAttached = false then s.chrFallback.write a.toNat b
        else s.chrFallback
      ntRam := if 0x1FFF#14 < a ∧ a ≤ 0x3EFF#14 then s.ntRam.write (ntIndex s.params.mirroring (a.setWidth 12)) b
        else s.ntRam
      palRam := if 0x3EFF#14 < a then s.palRam.write (palIndex (a.setWidth 5)).toNat (b.setWidth 6) else s.palRam } := by
  unfold memWrite
  simp only [busPlace_eq]
  by_cases h1 : a ≤ 0x1FFF#14
  · have h2 : ¬ 0x1FFF#14 < a := BitVec.not_lt.2 h1
    have h3 : ¬ 0x3EFF#14 < a := BitVec.not_lt.2 (BitVec.le_trans h1 (by decide))
    by_cases hm : s.params.mapperAttached = true <;> simp [h1, h2, h3, hm, chrWrite, record]
  · have h2 : 0x1FFF#14 < a := BitVec.not_le.1 h1
    by_cases h4 : a ≤ 0x3EFF#14
    · have h3 : ¬ 0x3EFF#14 < a := BitVec.not_lt.2 h4
      simp [h1, h4, h2, h3, ntWrite]
    · have h3 : 0x3EFF#14 < a := BitVec.not_le.1 h4
      simp [h1, h4, h3, palWrite]

/-- The data-port increment writes `v`, `busAddr` and the record of calls, and nothing else (R137). -/
theorem dataIncrement_frame :
    dataIncrement s = { s with
      v := (dataIncrement s).v, busAddr := (dataIncrement s).busAddr, events := (dataIncrement s).events } := by
  unfold dataIncrement
  split
  · rfl
  · simp only [busPlace_eq]

/-- A data-port read writes `readBuffer`, `busAddr` and the record of calls, and nothing else (R136). -/
theorem readData_frame :
    (readData s).2 = { s with
      readBuffer := (readData s).2.readBuffer, busAddr := (readData s).2.busAddr,
      events := (readData s).2.events } := by
  unfold readData
  simp only [memRead_eq]
  split <;> rfl

/-- A dummy read writes `busAddr` and the record of calls, and nothing else (R183, R211). -/
theorem dummyNametableRead_eq :
    dummyNametableRead s = { s with
      busAddr := nametableAddr s.v, events := readEvents (nametableAddr s.v) s } := memRead_state s _

/-- The background work of one fetch dot leaves every field but its own (R174, R189). -/
theorem bgFetchDot_frame :
    bgFetchDot s = { s with
      v := (bgFetchDot s).v, busAddr := (bgFetchDot s).busAddr, events := (bgFetchDot s).events,
      ntLatch := (bgFetchDot s).ntLatch, atLatch := (bgFetchDot s).atLatch,
      ptLoLatch := (bgFetchDot s).ptLoLatch, ptHiLatch := (bgFetchDot s).ptHiLatch,
      bgPatLo := (bgFetchDot s).bgPatLo, bgPatHi := (bgFetchDot s).bgPatHi,
      bgAttrLo := (bgFetchDot s).bgAttrLo, bgAttrHi := (bgFetchDot s).bgAttrHi } := by
  unfold bgFetchDot
  split
  · unfold fetchStep
    split <;>
      simp only [fetchNametable, fetchAttribute, fetchPatternLow, fetchPatternHigh, loadShiftRegisters,
        incrementCoarseX, shiftRegisters, memRead_eq]
  · rfl

/-- The fixed-dot work writes `v`, `busAddr` and the record of calls, and nothing else (R189). -/
theorem bgFixedDots_frame :
    bgFixedDots s = { s with
      v := (bgFixedDots s).v, busAddr := (bgFixedDots s).busAddr, events := (bgFixedDots s).events } := by
  unfold bgFixedDots
  simp only [dummyNametableRead_eq]
  split <;> rfl

/-- The background step of a dot leaves every field but its own (R189). -/
theorem backgroundDot_frame :
    backgroundDot s = { s with
      v := (backgroundDot s).v, busAddr := (backgroundDot s).busAddr, events := (backgroundDot s).events,
      ntLatch := (backgroundDot s).ntLatch, atLatch := (backgroundDot s).atLatch,
      ptLoLatch := (backgroundDot s).ptLoLatch, ptHiLatch := (backgroundDot s).ptHiLatch,
      bgPatLo := (backgroundDot s).bgPatLo, bgPatHi := (backgroundDot s).bgPatHi,
      bgAttrLo := (backgroundDot s).bgAttrLo, bgAttrHi := (backgroundDot s).bgAttrHi } := by
  unfold backgroundDot
  rw [bgFixedDots_frame, bgFetchDot_frame]

end Sys2Proof.Machine
end

