-- ==== Sys2Proof/Laws/PerInstr.lean ====
section
/-! SUPPORT. The per-instruction families: what holds of every instruction as syntax, one lemma per constructor. -/

namespace Sys2Proof.Laws.EncodedWord

/-- The word of an instruction has its reserved bit clear and a class of R91 that is not reserved. -/
def Statement (i : Instr) : Prop := opReserved (encode i) = false ∧ (opClass (encode i)).toNat ≤ 5

theorem ctrlW (d : Byte) : Statement (.ctrlW d) := by unfold Statement; revert d; decide
theorem maskW (d : Byte) : Statement (.maskW d) := by unfold Statement; revert d; decide
theorem statusW (d : Byte) : Statement (.statusW d) := by unfold Statement; revert d; decide
theorem oamAddrW (d : Byte) : Statement (.oamAddrW d) := by unfold Statement; revert d; decide
theorem oamDataW (d : Byte) : Statement (.oamDataW d) := by unfold Statement; revert d; decide
theorem scrollW (d : Byte) : Statement (.scrollW d) := by unfold Statement; revert d; decide
theorem addrW (d : Byte) : Statement (.addrW d) := by unfold Statement; revert d; decide
theorem dataW (d : Byte) : Statement (.dataW d) := by unfold Statement; revert d; decide
theorem ctrlR : Statement .ctrlR := by unfold Statement; decide
theorem maskR : Statement .maskR := by unfold Statement; decide
theorem statusR : Statement .statusR := by unfold Statement; decide
theorem oamAddrR : Statement .oamAddrR := by unfold Statement; decide
theorem oamDataR : Statement .oamDataR := by unfold Statement; decide
theorem scrollR : Statement .scrollR := by unfold Statement; decide
theorem addrR : Statement .addrR := by unfold Statement; decide
theorem dataR : Statement .dataR := by unfold Statement; decide
theorem tick : Statement .tick := by unfold Statement; decide
theorem reset : Statement .reset := by unfold Statement; decide
theorem pollNmi : Statement .pollNmi := by unfold Statement; decide
theorem pollFrame : Statement .pollFrame := by unfold Statement; decide

end Sys2Proof.Laws.EncodedWord
end

