-- ==== Sys2Proof/Laws/Tick.lean ====
section
/-! SUPPORT. What each sub-step of a TICK can write, said once per sub-step, and the fields a TICK never writes. -/

namespace Sys2Proof.Machine

variable (s : State)

/-- The timing advance writes the timing fields, and nothing else (R151). -/
theorem advanceTiming_frame :
    advanceTiming s = { s with
      scanline := (advanceTiming s).scanline, dot := (advanceTiming s).dot,
      totalCycles := s.totalCycles + 1#64, oddFrame := (advanceTiming s).oddFrame } := by
  unfold advanceTiming
  dsimp only
  split
  · rfl
  · split
    · split <;> rfl
    · rfl

/-- The VBlank transitions write the status flags, and nothing else (R154, R155, R157). -/
theorem vblankTransitions_frame :
    vblankTransitions s = { s with
      vblank := (vblankTransitions s).vblank, sprite0Hit := (vblankTransitions s).sprite0Hit,
      spriteOverflow := (vblankTransitions s).spriteOverflow, nmiPending := (vblankTransitions s).nmiPending,
      frameComplete := (vblankTransitions s).frameComplete,
      vblankStartDot := (vblankTransitions s).vblankStartDot, inVBlank := (vblankTransitions s).inVBlank } := by
  unfold vblankTransitions
  dsimp only
  split <;> split <;> rfl

/-- The compositor writes `sprite0Hit`, the frame buffer and the record of calls, and nothing else (R241). -/
theorem composeDot_frame :
    composeDot s = { s with
      sprite0Hit := (composeDot s).sprite0Hit, fb := (composeDot s).fb, events := (composeDot s).events } := by
  unfold composeDot composePixel updateSprite0Hit
  split
  · dsimp only
    split <;> rfl
  · rfl

theorem copyOamBytes_frame (b : Byte) (l : List Nat) :
    l.foldl (fun s k => copyOamByte b k s) s =
      { s with oam := (l.foldl (fun s k => copyOamByte b k s) s).oam } := by
  induction l generalizing s with
  | nil => rfl
  | cons k rest ih => simp only [List.foldl_cons]; rw [ih]; rfl

/-- The corruption check writes primary OAM, and nothing else (R224). -/
theorem oamCorruptionCheck_frame :
    oamCorruptionCheck s = { s with oam := (oamCorruptionCheck s).oam } := by
  unfold oamCorruptionCheck
  split
  · exact copyOamBytes_frame _ _ _
  · rfl

/-- The OAM address effects write primary OAM and its address, and nothing else (R223, R224). -/
theorem oamAddressDot_frame :
    oamAddressDot s = { s with oamAddr := (oamAddressDot s).oamAddr, oam := (oamAddressDot s).oam } := by
  unfold oamAddressDot
  rw [oamCorruptionCheck_frame]
  dsimp only
  split <;> split <;> rfl

/-- Evaluation writes secondary OAM, its counters, the overflow flag and the head of the next buffer, and nothing else
(R201 to R210). -/
theorem evaluationDot_frame :
    evaluationDot s = { s with
      secOam := (evaluationDot s).secOam, evalN := (evaluationDot s).evalN, evalM := (evaluationDot s).evalM,
      evalFound := (evaluationDot s).evalFound, evalSprite0 := (evaluationDot s).evalSprite0,
      spriteOverflow := (evaluationDot s).spriteOverflow, next := (evaluationDot s).next } := by
  unfold evaluationDot
  dsimp only
  split
  · rfl
  split
  · rfl
  split
  · unfold evaluationStep
    split
    · split
      · rfl
      · split <;> rfl
    · rfl
  split <;> rfl

/-- The sprite fetch and swap write the two buffers, the fetch latches, `busAddr` and the record of calls, and nothing else
(R211, R217, R219). -/
theorem spriteBufferDot_frame :
    spriteBufferDot s = { s with
      busAddr := (spriteBufferDot s).busAddr, events := (spriteBufferDot s).events,
      cur := (spriteBufferDot s).cur, next := (spriteBufferDot s).next,
      spLoLatch := (spriteBufferDot s).spLoLatch, spHiLatch := (spriteBufferDot s).spHiLatch } := by
  unfold spriteBufferDot spriteFetchDot spriteFetchStep
  split
  · split <;> simp only [dummyNametableRead_eq, fetchSpriteLow, fetchSpriteHigh, loadSlot, memRead_eq]
  · split <;> rfl

/-- The sprite step of a dot leaves every field but its own (R200). -/
theorem spriteDot_frame :
    spriteDot s = { s with
      oamAddr := (spriteDot s).oamAddr, oam := (spriteDot s).oam, secOam := (spriteDot s).secOam,
      evalN := (spriteDot s).evalN, evalM := (spriteDot s).evalM, evalFound := (spriteDot s).evalFound,
      evalSprite0 := (spriteDot s).evalSprite0, spriteOverflow := (spriteDot s).spriteOverflow,
      busAddr := (spriteDot s).busAddr, events := (spriteDot s).events, cur := (spriteDot s).cur,
      next := (spriteDot s).next, spLoLatch := (spriteDot s).spLoLatch, spHiLatch := (spriteDot s).spHiLatch } := by
  unfold spriteDot
  dsimp only
  split
  · rw [spriteBufferDot_frame, evaluationDot_frame, oamAddressDot_frame]
  · rw [oamAddressDot_frame]

/-- The rendering step of a dot leaves every field but those of the background and sprite steps (R150). -/
theorem renderDot_frame :
    renderDot s = { s with
      v := (renderDot s).v, busAddr := (renderDot s).busAddr, events := (renderDot s).events,
      ntLatch := (renderDot s).ntLatch, atLatch := (renderDot s).atLatch,
      ptLoLatch := (renderDot s).ptLoLatch, ptHiLatch := (renderDot s).ptHiLatch,
      bgPatLo := (renderDot s).bgPatLo, bgPatHi := (renderDot s).bgPatHi,
      bgAttrLo := (renderDot s).bgAttrLo, bgAttrHi := (renderDot s).bgAttrHi,
      oamAddr := (renderDot s).oamAddr, oam := (renderDot s).oam, secOam := (renderDot s).secOam,
      evalN := (renderDot s).evalN, evalM := (renderDot s).evalM, evalFound := (renderDot s).evalFound,
      evalSprite0 := (renderDot s).evalSprite0, spriteOverflow := (renderDot s).spriteOverflow,
      cur := (renderDot s).cur, next := (renderDot s).next,
      spLoLatch := (renderDot s).spLoLatch, spHiLatch := (renderDot s).spHiLatch } := by
  unfold renderDot
  split
  · rw [spriteDot_frame, backgroundDot_frame]
  · rfl

/-- The state a TICK's rendering step starts from: after the advance, the VBlank transitions and the pixel (R150). -/
def beforeRender (s : State) : State := composeDot (vblankTransitions (advanceTiming s))

theorem beforeRender_frame :
    beforeRender s = { s with
      scanline := (advanceTiming s).scanline, dot := (advanceTiming s).dot,
      totalCycles := s.totalCycles + 1#64, oddFrame := (advanceTiming s).oddFrame,
      vblank := (beforeRender s).vblank, sprite0Hit := (beforeRender s).sprite0Hit,
      spriteOverflow := (beforeRender s).spriteOverflow, nmiPending := (beforeRender s).nmiPending,
      frameComplete := (beforeRender s).frameComplete,
      vblankStartDot := (beforeRender s).vblankStartDot, inVBlank := (beforeRender s).inVBlank,
      fb := (beforeRender s).fb, events := (beforeRender s).events } := by
  unfold beforeRender
  rw [composeDot_frame, vblankTransitions_frame, advanceTiming_frame]

theorem tickState_eq :
    tickState s = { renderDot (beforeRender s) with result := .bit (renderDot (beforeRender s)).oddFrame } := rfl

/-! The fields a TICK never writes. -/

@[simp] theorem tickState_ctrl : (tickState s).ctrl = s.ctrl := by
  rw [tickState_eq, renderDot_frame, beforeRender_frame]
@[simp] theorem tickState_mask : (tickState s).mask = s.mask := by
  rw [tickState_eq, renderDot_frame, beforeRender_frame]
@[simp] theorem tickState_t : (tickState s).t = s.t := by
  rw [tickState_eq, renderDot_frame, beforeRender_frame]
@[simp] theorem tickState_x : (tickState s).x = s.x := by
  rw [tickState_eq, renderDot_frame, beforeRender_frame]
@[simp] theorem tickState_w : (tickState s).w = s.w := by
  rw [tickState_eq, renderDot_frame, beforeRender_frame]
@[simp] theorem tickState_ioLatch : (tickState s).ioLatch = s.ioLatch := by
  rw [tickState_eq, renderDot_frame, beforeRender_frame]
@[simp] theorem tickState_readBuffer : (tickState s).readBuffer = s.readBuffer := by
  rw [tickState_eq, renderDot_frame, beforeRender_frame]
@[simp] theorem tickState_ntRam : (tickState s).ntRam = s.ntRam := by
  rw [tickState_eq, renderDot_frame, beforeRender_frame]
@[simp] theorem tickState_palRam : (tickState s).palRam = s.palRam := by
  rw [tickState_eq, renderDot_frame, beforeRender_frame]
@[simp] theorem tickState_chrFallback : (tickState s).chrFallback = s.chrFallback := by
  rw [tickState_eq, renderDot_frame, beforeRender_frame]
@[simp] theorem tickState_params : (tickState s).params = s.params := by
  rw [tickState_eq, renderDot_frame, beforeRender_frame]
@[simp] theorem tickState_issued : (tickState s).issued = s.issued := by
  rw [tickState_eq, renderDot_frame, beforeRender_frame]

/-! The fields only the early sub-steps of a TICK write. -/

@[simp] theorem tickState_scanline : (tickState s).scanline = (advanceTiming s).scanline := by
  rw [tickState_eq, renderDot_frame, beforeRender_frame]
@[simp] theorem tickState_dot : (tickState s).dot = (advanceTiming s).dot := by
  rw [tickState_eq, renderDot_frame, beforeRender_frame]
@[simp] theorem tickState_totalCycles : (tickState s).totalCycles = s.totalCycles + 1#64 := by
  rw [tickState_eq, renderDot_frame, beforeRender_frame]
@[simp] theorem tickState_oddFrame : (tickState s).oddFrame = (advanceTiming s).oddFrame := by
  rw [tickState_eq, renderDot_frame, beforeRender_frame]
@[simp] theorem tickState_result : (tickState s).result = .bit (advanceTiming s).oddFrame := by
  rw [tickState_eq, renderDot_frame, beforeRender_frame]
@[simp] theorem tickState_vblank : (tickState s).vblank = (vblankTransitions (advanceTiming s)).vblank := by
  rw [tickState_eq, renderDot_frame]
  unfold beforeRender
  rw [composeDot_frame]
@[simp] theorem tickState_nmiPending :
    (tickState s).nmiPending = (vblankTransitions (advanceTiming s)).nmiPending := by
  rw [tickState_eq, renderDot_frame]
  unfold beforeRender
  rw [composeDot_frame]
@[simp] theorem tickState_frameComplete :
    (tickState s).frameComplete = (vblankTransitions (advanceTiming s)).frameComplete := by
  rw [tickState_eq, renderDot_frame]
  unfold beforeRender
  rw [composeDot_frame]
@[simp] theorem tickState_vblankStartDot :
    (tickState s).vblankStartDot = (vblankTransitions (advanceTiming s)).vblankStartDot := by
  rw [tickState_eq, renderDot_frame]
  unfold beforeRender
  rw [composeDot_frame]
@[simp] theorem tickState_inVBlank : (tickState s).inVBlank = (vblankTransitions (advanceTiming s)).inVBlank := by
  rw [tickState_eq, renderDot_frame]
  unfold beforeRender
  rw [composeDot_frame]
@[simp] theorem tickState_sprite0Hit :
    (tickState s).sprite0Hit = (composeDot (vblankTransitions (advanceTiming s))).sprite0Hit := by
  rw [tickState_eq, renderDot_frame]
  rfl
@[simp] theorem tickState_fb : (tickState s).fb = (composeDot (vblankTransitions (advanceTiming s))).fb := by
  rw [tickState_eq, renderDot_frame]
  rfl

end Sys2Proof.Machine
end

