-- ==== Sys2Proof/Tests/Slice0.lean ====
section
/-! SUPPORT. Tests of the model and witnesses of the statements. Every expected value is the spec's: an example of the rule
named, a row of 95_test_vectors.md, or a word written out from R105. -/

namespace Sys2Proof.Tests

open Sys2Proof.Machine

/-! ## Ill-formed transcript lines are refused, and their neighbours accepted (R103, R104) -/

theorem test_wf_write_imm8 :
    (Line.write .ctrl 256).wellFormed 261 = false ∧ (Line.write .ctrl 255).wellFormed 261 = true := by decide

theorem test_wf_setaddr_16_bits :
    (Line.setAddr 0x10000).wellFormed 261 = false ∧ (Line.setAddr 0xFFFF).wellFormed 261 = true := by decide

theorem test_wf_setscroll_bytes :
    (Line.setScroll 256 0).wellFormed 261 = false ∧ (Line.setScroll 0 256).wellFormed 261 = false ∧
      (Line.setScroll 255 255).wellFormed 261 = true := by decide

theorem test_wf_put :
    (Line.put 0x10000 []).wellFormed 261 = false ∧ (Line.put 0x2000 [0, 256]).wellFormed 261 = false ∧
      (Line.put 0x2000 [0, 255]).wellFormed 261 = true := by decide

theorem test_wf_oamput :
    (Line.oamPut 256 []).wellFormed 261 = false ∧ (Line.oamPut 0 [256]).wellFormed 261 = false ∧
      (Line.oamPut 255 [255]).wellFormed 261 = true := by decide

theorem test_wf_runto :
    (Line.runTo 262 0).wellFormed 261 = false ∧ (Line.runTo 0 341).wellFormed 261 = false ∧
      (Line.runTo 261 340).wellFormed 261 = true := by decide

/-! ## Every row of the opcode map, its word written out bit by bit (R105) -/

theorem test_decode_writes :
    decode 0b0000000010010000#16 = .ok (.ctrlW 0x90) ∧ decode 0b0000000100011110#16 = .ok (.maskW 0x1E) ∧
      decode 0b0000001010100101#16 = .ok (.statusW 0xA5) ∧ decode 0b0000001100010000#16 = .ok (.oamAddrW 0x10) ∧
      decode 0b0000010001110111#16 = .ok (.oamDataW 0x77) ∧ decode 0b0000010101111101#16 = .ok (.scrollW 0x7D) ∧
      decode 0b0000011000111111#16 = .ok (.addrW 0x3F) ∧ decode 0b0000011110101011#16 = .ok (.dataW 0xAB) := by
  decide

theorem test_decode_reads :
    decode 0b0001000000000000#16 = .ok .ctrlR ∧ decode 0b0001000100000000#16 = .ok .maskR ∧
      decode 0b0001001000000000#16 = .ok .statusR ∧ decode 0b0001001100000000#16 = .ok .oamAddrR ∧
      decode 0b0001010000000000#16 = .ok .oamDataR ∧ decode 0b0001010100000000#16 = .ok .scrollR ∧
      decode 0b0001011000000000#16 = .ok .addrR ∧ decode 0b0001011100000000#16 = .ok .dataR := by decide

theorem test_decode_clock_reset_polls :
    decode 0b0010000000000000#16 = .ok .tick ∧ decode 0b0011000000000000#16 = .ok .reset ∧
      decode 0b0100000000000000#16 = .ok .pollNmi ∧ decode 0b0101000000000000#16 = .ok .pollFrame := by decide

/-- R106: one word for each way to spell no transaction. -/
theorem test_decode_refuses :
    decode 0b0000100000000000#16 = .error .reservedBit ∧ decode 0b0001001000000001#16 = .error .readWithData ∧
      decode 0b0010000100000000#16 = .error .operandBits ∧ decode 0b0101000000000001#16 = .error .operandBits ∧
      decode 0b0110000000000000#16 = .error .reservedClass ∧
      decode 0b1111000000000000#16 = .error .reservedClass := by decide

theorem test_table_word : decodeTableWord 16 0x0690 = some (.addrW 0x90) ∧ decodeTableWord 16 0x6000 = none := by
  decide

theorem test_step_runs_fetch_word :
    step (State.reset.withFetchWord 16 0x0080) = exec (.ctrlW 0x80) State.reset := by rfl

/-- R106: the step refuses a word that spells no transaction. -/
theorem test_step_refuses :
    step (State.reset.withFetchWord 16 0x6000) = .refused (.illegalWord 0x6000 .reservedClass) := by rfl

/-! ## Helpers -/

/-- A small state: the beam at a position, with a mask. -/
def beam (scanline dot : Nat) (mask : Byte) : State :=
  { State.reset with scanline := scanline, dot := dot, mask := mask }

/-- The same with a mapper. -/
def withMapper (s : State) : State := { s with params := { s.params with mapperAttached := true } }

/-- The same for the 50 Hz standard. -/
def asPal (s : State) : State := { s with params := { s.params with standard := .pal50 } }

/-- The state a transaction leaves. -/
def after (i : Instr) (s : State) : State :=
  match exec i s with
  | .next t => t
  | .fault _ => s
  | .refused _ => s

theorem exec_tick (s : State) : exec .tick s = .next (after .tick s) := rfl

/-! ## Register transactions: the examples of 40_registers.md -/

theorem test_ctrlW : (after (.ctrlW 0x01) { State.reset with t := 0x7FFF }).t = 0x77FF := by decide

theorem test_maskW : renderingEnabled (after (.maskW 0x1E) State.reset) = true := by decide

theorem test_statusW : (after .ctrlR (after (.statusW 0xA5) State.reset)).result = .byte 0xA5 := by decide

theorem test_oamAddrW : (after (.oamAddrW 0x10) State.reset).oamAddr = 0x10 := by decide

theorem test_oamDataW_attribute :
    (after (.oamDataW 0xFF) { State.reset with oamAddr := 0x02 }).oam = [(2, 0xE3)] ∧
      (after (.oamDataW 0xFF) { State.reset with oamAddr := 0x02 }).oamAddr = 0x03 := by decide

theorem test_oamDataW_active_line :
    (after (.oamDataW 0x77) { beam 10 0 0x08 with oamAddr := 0x05 }).oam = [] ∧
      (after (.oamDataW 0x77) { beam 10 0 0x08 with oamAddr := 0x05 }).oamAddr = 0x09 := by decide

theorem test_scrollW :
    (after (.scrollW 0x5E) (after (.scrollW 0x7D) State.reset)).t = 0x616F ∧
      (after (.scrollW 0x5E) (after (.scrollW 0x7D) State.reset)).x = 5 ∧
      (after (.scrollW 0x5E) (after (.scrollW 0x7D) State.reset)).w = false := by decide

theorem test_addrW :
    (after (.addrW 0x10) (after (.addrW 0xFF) State.reset)).v = 0x3F10 ∧
      (after (.addrW 0x10) (after (.addrW 0xFF) State.reset)).w = false := by decide

theorem test_dataW_nametable :
    ntRead 0x2005 (after (.dataW 0xAB) { State.reset with v := 0x2005 }) = 0xAB ∧
      (after (.dataW 0xAB) { State.reset with v := 0x2005 }).v = 0x2006 := by decide

/-- R68, worked: `PalWrite(0x10, 0x21)` then `PalRead(0x00)`; R137: the increment by 1. -/
theorem test_dataW_palette_alias :
    palRead 0x00 (after (.dataW 0x21) { State.reset with v := 0x3F10 }) = 0x21 ∧
      (after (.dataW 0x21) { State.reset with v := 0x3FFF }).v = 0x0000 := by decide

theorem test_ctrlR : (after .ctrlR (after (.ctrlW 0x90) State.reset)).result = .byte 0x90 := by decide

theorem test_maskR : (after .maskR (after (.ctrlW 0x00) (after (.maskW 0x1E) State.reset))).result = .byte 0x00 := by
  decide

theorem test_statusR :
    (after .statusR { State.reset with vblank := true, sprite0Hit := true, ioLatch := 0x0F }).result = .byte 0xCF ∧
      (after .statusR { State.reset with vblank := true, sprite0Hit := true, ioLatch := 0x0F }).vblank = false ∧
      (after .statusR { State.reset with vblank := true, sprite0Hit := true, ioLatch := 0x0F }).ioLatch = 0xCF := by
  decide

/-- R131, R285: a read in the race window returns bit 7 and leaves `vblank`. -/
theorem test_statusR_race :
    (after .statusR { State.reset with vblank := true, vblankStartDot := true }).result = .byte 0x80 ∧
      (after .statusR { State.reset with vblank := true, vblankStartDot := true }).vblank = true := by decide

theorem test_oamAddrR : (after .oamAddrR (after (.oamAddrW 0x20) State.reset)).result = .byte 0x20 := by decide

theorem test_oamDataR :
    (after .oamDataR { State.reset with oam := [(2, 0xE3)], oamAddr := 2 }).result = .byte 0xE3 ∧
      (after .oamDataR { State.reset with oam := [(2, 0xE3)], oamAddr := 2 }).oamAddr = 2 := by decide

theorem test_scrollR :
    (after .scrollR (after (.scrollW 0x7D) State.reset)).result = .byte 0x7D ∧
      (after .scrollR (after (.scrollW 0x7D) State.reset)).w = true := by decide

theorem test_addrR : (after .addrR (after (.addrW 0x3F) State.reset)).result = .byte 0x3F := by decide

theorem test_dataR_buffered :
    (after .dataR { State.reset with v := 0x2005, ntRam := [(5, 0xAB)] }).result = .byte 0x00 ∧
      (after .dataR { State.reset with v := 0x2005, ntRam := [(5, 0xAB)] }).readBuffer = 0xAB ∧
      (after .dataR { State.reset with v := 0x2005, ntRam := [(5, 0xAB)] }).v = 0x2006 := by decide

/-- R137, the glitch example: coarse X 1, fine Y 1. -/
theorem test_dataR_glitch : (after .dataR (beam 10 0 0x08)).v = 0x1001 := by decide

theorem test_pollNmi :
    (after .pollNmi { State.reset with nmiPending := true }).result = .bit true ∧
      (after .pollNmi (after .pollNmi { State.reset with nmiPending := true })).result = .bit false := by decide

theorem test_pollFrame :
    (after .pollFrame { State.reset with frameComplete := true }).result = .bit true ∧
      (after .pollFrame (after .pollFrame { State.reset with frameComplete := true })).result = .bit false := by decide

/-- R280: RESET then `R STATUS` returns 0x00. -/
theorem test_reset :
    (after .statusR (after .reset { beam 100 7 0x18 with vblank := true, ioLatch := 0xFF })).result = .byte 0x00 := by
  decide

/-- R150: the first TICK from reset. -/
theorem test_tick_first :
    (after .tick State.reset).dot = 1 ∧ (after .tick State.reset).scanline = 0 ∧
      (after .tick State.reset).result = .bit false := by decide

/-- R151: the skip from pre-render dot 339 of an odd frame. -/
theorem test_tick_skip :
    (after .tick { beam 261 339 0x08 with oddFrame := true }).scanline = 0 ∧
      (after .tick { beam 261 339 0x08 with oddFrame := true }).dot = 0 ∧
      (after .tick { beam 261 339 0x08 with oddFrame := true }).result = .bit false := by decide

/-! ## The parts of a TICK: the examples of 42_background.md and 43_sprites.md -/

theorem test_incCoarseX : incCoarseX 0x001F = 0x0400 ∧ incCoarseX 0x041F = 0x0000 ∧ incCoarseX 0x0005 = 0x0006 := by
  decide

theorem test_incFineY : incFineY 0x73A0 = 0x0800 ∧ incFineY 0x7BE0 = 0x0800 := by decide

theorem test_rev8 : rev8 0x01 = 0x80 ∧ rev8 0xC4 = 0x23 := by decide

/-- R217, R218: the row addresses of an empty slot. -/
theorem test_empty_slot_address :
    spriteRowAddr 0 State.reset = 0x0FF0 ∧ spriteRowAddr 0 { State.reset with ctrl := 0x20 } = 0x1FE0 := by decide

/-- R64: the four mirroring modes at 0x2C05, reduced to 0x0C05. -/
theorem test_mirroring :
    ntIndex .vertical 0xC05 = 0x405 ∧ ntIndex .horizontal 0xC05 = 0x405 ∧ ntIndex .horizontal 0x405 = 0x005 ∧
      ntIndex .singleScreen 0xC05 = 0x005 ∧ ntIndex .fourScreen 0xC05 = 0xC05 := by decide

/-- The memories of the reset state are in canonical form. -/
theorem test_reset_memories :
    State.reset.ntRam.wf = true ∧ State.reset.palRam.wf = true ∧ State.reset.chrFallback.wf = true ∧
      State.reset.oam.wf = true ∧ State.reset.secOam.wf = true := by decide

/-! ## Witnesses: for each statement with hypotheses or clauses, states and operands that meet them, at the ends of the
ranges. `after .tick s` is the next state of the TICK (`exec_tick`). -/

theorem test_witness_EncodeDecodeRoundTrip : decode 0x07FF = .ok (.dataW 0xFF) := by decide

theorem test_witness_StepRunsIssuedWord :
    (State.reset.withFetchWord 16 0x2000).issued = [0x2000] ∧ decode 0x2000 = .ok .tick ∧ State.reset.issued = [] := by
  decide

theorem test_witness_ReservedWordsAreRefused :
    legalWord 0x5000 = true ∧ legalWord 0x17FF = false ∧ legalWord 0x1700 = true ∧ legalWord 0x6000 = false ∧
      legalWord 0x0800 = false ∧ legalWord 0x07FF = true ∧ legalWord 0x2001 = false := by decide

/-- Both clauses: the active lines 239 and 261, the lines 240 and 260 between them, and an attribute index. -/
theorem test_witness_OamDataWriteResult :
    activeLine (beam 239 340 0x08) = true ∧ activeLine (beam 261 0 0x10) = true ∧
      activeLine (beam 240 0 0x18) = false ∧ activeLine (beam 260 340 0x18) = false ∧
      activeLine (beam 0 0 0x00) = false ∧ ({ State.reset with oamAddr := 0xFE } : State).oamAddr.toNat % 4 = 2 := by
  decide

theorem test_witness_toggle :
    State.reset.w = false ∧ (after (.scrollW 0) State.reset).w = true ∧ (after (.addrW 0) State.reset).w = true := by
  decide

/-- The second ADDR write off an active line, with the address changed and a mapper attached, and on one. -/
theorem test_witness_AddrWriteResult :
    (after (.addrW 0x10) (withMapper { State.reset with w := true, t := 0x3F00 })).events =
        [.addressBusChanged 0x3F10] ∧
      (after (.addrW 0x10) { beam 0 0 0x08 with w := true, t := 0x3F00 }).busAddr = 0 := by decide

/-- The four ends of the address ranges of the data port, and the mapper at the end of its range. -/
theorem test_witness_DataWriteStores :
    (after (.dataW 0xAB) { State.reset with v := 0x1FFF }).chrFallback = [(0x1FFF, 0xAB)] ∧
      ntRead 0x2000 (after (.dataW 0xAB) { State.reset with v := 0x2000 }) = 0xAB ∧
      ntRead 0x2EFF (after (.dataW 0xAB) { State.reset with v := 0x3EFF }) = 0xAB ∧
      palRead 0x00 (after (.dataW 0xAB) { State.reset with v := 0x3F00 }) = 0x2B ∧
      Event.writeChr 0x1FFF 0xAB ∈ (after (.dataW 0xAB) (withMapper { State.reset with v := 0x1FFF })).events := by
  decide

theorem test_witness_DataPortIncrement :
    (after .dataR { beam 261 0 0x08 with v := 0x73BF }).v = 0x0C00 ∧
      (after (.dataW 0) { State.reset with v := 0x3FE0, ctrl := 0x04 }).v = 0 ∧
      (after .dataR { State.reset with v := 0x7000 }).v = 0x3001 ∧
      (after (.dataW 0) (withMapper State.reset)).events.head? = some (.addressBusChanged 1) := by decide

theorem test_witness_WriteOnlyReadsReturnLatch :
    Instr.addrR ∈ [Instr.ctrlR, .maskR, .oamAddrR, .scrollR, .addrR] := by decide

theorem test_witness_OamDataReadResult :
    OamInv { State.reset with oam := [(2, 0xE3)], oamAddr := 2 } := by unfold OamInv; decide

/-- The ends of the ranges of a data read, without a mapper; with one, the answer is recorded. -/
theorem test_witness_DataReadResult :
    (after .dataR { State.reset with v := 0x1FFF, chrFallback := [(0x1FFF, 0xAB)] }).readBuffer = 0xAB ∧
      (after .dataR { State.reset with v := 0x3EFF, ntRam := [(0x6FF, 0xAB)] }).readBuffer = 0xAB ∧
      (after .dataR { State.reset with v := 0x3F00, ntRam := [(0x700, 0xAB)] }).readBuffer = 0xAB ∧
      (after .dataR { State.reset with v := 0x3FFF, palRam := [(0x1F, 0x3F)] }).result = .byte 0x3F ∧
      (after .dataR (withMapper { State.reset with v := 0x1FFF })).params.mapperAttached = true := by decide

/-- The calls of a data access with a mapper, newest first: off active lines the write to the mapper and then the new `v`,
and the access address before them unless it is on the bus; on an active line no call for the new `v`. -/
theorem test_witness_data_port_calls :
    (after (.dataW 0xAB) (withMapper { State.reset with v := 0x1FFF })).events =
        [.addressBusChanged 0x2000, .writeChr 0x1FFF 0xAB, .addressBusChanged 0x1FFF] ∧
      (after (.dataW 0xAB) (withMapper { State.reset with v := 0x1FFF, busAddr := 0x1FFF })).events =
        [.addressBusChanged 0x2000, .writeChr 0x1FFF 0xAB] ∧
      (after .dataR (withMapper { beam 10 0 0x08 with v := 0x2000 })).events = [.addressBusChanged 0x2000] ∧
      (after .dataR (withMapper { State.reset with v := 0x3F00 })).events =
        [.addressBusChanged 0x3F01, .addressBusChanged 0x3F00] := by decide

/-! TICK: the positions at which each clause applies. -/

theorem test_witness_TickAdvancesTiming :
    skipsDot { beam 261 339 0x10 with oddFrame := true } = true ∧ (beam 0 339 0x18).dot ≠ 340 ∧
      (beam 260 340 0x18).scanline < preRender (beam 260 340 0x18) ∧
      preRender (beam 261 340 0x18) ≤ (beam 261 340 0x18).scanline := by decide

theorem test_witness_TickVBlankFlags :
    ((after .tick (beam 241 0 0)).scanline = 241 ∧ (after .tick (beam 241 0 0)).dot = 1) ∧
      ((after .tick (beam 260 339 0)).scanline = 260 ∧ (after .tick (beam 260 339 0)).dot = 340) ∧
      ((after .tick (asPal (beam 310 339 0))).scanline = 310 ∧
        preRender (asPal (beam 310 339 0)) - 1 = 310 ∧ (after .tick (asPal (beam 310 339 0))).dot = 340) ∧
      (after .tick (beam 241 1 0)).dot = 2 := by decide

/-- The sets of dots exist, and the clauses that exclude a dot hold of the dots beside it. -/
theorem test_witness_TickFrame :
    (∃ bgDot spDot : Nat → Prop, (∀ d, bgDot d ↔ (1 ≤ d ∧ d ≤ 256) ∨ (321 ≤ d ∧ d ≤ 336)) ∧
        ∀ d, spDot d ↔ 257 ≤ d ∧ d ≤ 320) ∧
      (after .tick (beam 0 1 0x18)).dot = 2 ∧ (after .tick (beam 0 256 0x18)).dot = 257 ∧
      (after .tick (beam 0 320 0x18)).dot = 321 := by
  refine ⟨⟨_, _, fun _ => Iff.rfl, fun _ => Iff.rfl⟩, ?_⟩
  decide

theorem test_witness_TickOffActiveLines :
    (beam 100 100 0).mask.getLsbD 3 = false ∧ (beam 100 100 0).mask.getLsbD 4 = false ∧
      (after .tick (beam 239 340 0x18)).scanline = 240 ∧ (after .tick (beam 260 339 0x18)).scanline = 260 := by decide

theorem test_witness_BackdropPixel :
    (beam 239 255 0xE1).mask.getLsbD 3 = false ∧ (beam 239 255 0xE1).mask.getLsbD 4 = false ∧
      (beam 239 255 0xE1).scanline ≤ 239 ∧ (beam 239 255 0xE1).dot ≤ 255 ∧ (beam 239 255 0xE1).mask.getLsbD 0 = true := by
  decide

/-- A buffer whose only sprite is OAM sprite 0, eight opaque columns from column 0 on with the default offset. -/
def oneSprite (attr : Byte) : SpriteBuffer :=
  { SpriteBuffer.zero with
    count := 1
    sprite0Slot := some 0
    slots := (Vector.replicate 8 ⟨0, 0, 0, 0⟩).set 0 ⟨0xFF, 0x00, attr, 0x02⟩ }

/-- An opaque background of palette 0, pattern 1. -/
def opaqueBackground (s : State) : State := { s with bgPatLo := 0xFFFF }

/-- The four cases of priority, each with sprite 0 in front or behind, and the hit. -/
theorem test_witness_ComposedPixel :
    spritePixelGated 0 { beam 0 0 0x1E with cur := oneSprite 0x00 } = some ⟨17, 0, true⟩ ∧
      spritePixelGated 7 { beam 239 7 0x1E with cur := oneSprite 0x20 } = some ⟨17, 0, false⟩ ∧
      bgPixelGated 7 (opaqueBackground { beam 239 7 0x1E with cur := oneSprite 0x20 }) = 1 ∧
      spritePixelGated 255 (opaqueBackground (beam 239 255 0x1E)) = none ∧
      (after .tick (opaqueBackground { beam 0 0 0x1E with cur := oneSprite 0x20 })).sprite0Hit = true ∧
      (after .tick { beam 0 0 0x1E with cur := oneSprite 0x00 }).sprite0Hit = false := by decide

/-- Background shown and opaque, clipped in the left column, and hidden. -/
theorem test_witness_BackgroundPixelValue :
    (bgPixelGated 8 { opaqueBackground (beam 0 0 0x08) with bgPatHi := 0xFFFF, bgAttrHi := 0xFFFF, x := 7 }).toNat = 11 ∧
      bgPixelGated 7 (opaqueBackground (beam 0 0 0x08)) = 0 ∧ bgPixelGated 8 (opaqueBackground (beam 0 0 0x10)) = 0 := by
  decide

theorem test_witness_SpritePixelIsFirstOpaque :
    (oneSprite 0).count ≤ 8 ∧ spritePixelGated 7 { beam 0 7 0x10 with cur := oneSprite 0 } = none ∧
      spritePixelGated 7 { beam 0 7 0x14 with cur := oneSprite 0 } = some ⟨17, 0, true⟩ ∧
      spritePixelGated 8 { beam 0 8 0x10 with cur := oneSprite 0 } = none := by decide

/-- R221: with the offset 2 a sprite at X byte 0x10 covers columns 14 to 21. -/
theorem test_witness_SlotPixelFormula :
    slotPixel 2 13 0 ⟨0xFF, 0x00, 0x23, 0x10⟩ = none ∧ slotPixel 2 14 0 ⟨0xFF, 0x00, 0x23, 0x10⟩ = some ⟨29, 0, false⟩ ∧
      slotPixel 2 21 5 ⟨0x00, 0x01, 0x00, 0x10⟩ = some ⟨18, 5, true⟩ ∧
      slotPixel 2 22 0 ⟨0xFF, 0x00, 0x23, 0x10⟩ = none ∧ slotPixel 2 20 5 ⟨0x00, 0x01, 0x00, 0x10⟩ = none := by decide

theorem test_witness_ScrollIncrements :
    (0x001F : LoopyAddr).extractLsb' 0 5 = 31 ∧ (0x001E : LoopyAddr).extractLsb' 0 5 ≠ 31 ∧
      (0x6000 : LoopyAddr).extractLsb' 12 3 ≠ 7 ∧
      ((0x73A0 : LoopyAddr).extractLsb' 12 3 = 7 ∧ (0x73A0 : LoopyAddr).extractLsb' 5 5 = 29) ∧
      ((0x7BE0 : LoopyAddr).extractLsb' 12 3 = 7 ∧ (0x7BE0 : LoopyAddr).extractLsb' 5 5 ≠ 29) := by decide

theorem test_witness_ScrollAddressOfTick :
    activeLine (after .tick (beam 240 255 0x18)) = false ∧
      (activeLine (after .tick (beam 239 255 0x08)) = true ∧ (after .tick (beam 239 255 0x08)).dot = 256) ∧
      (activeLine (after .tick (beam 0 7 0x08)) = true ∧ (after .tick (beam 0 7 0x08)).dot = 8) ∧
      (after .tick (beam 0 335 0x08)).dot = 336 ∧ (after .tick (beam 0 256 0x08)).dot = 257 ∧
      (activeLine (after .tick (beam 261 279 0x08)) = true ∧ (after .tick (beam 261 279 0x08)).dot = 280) ∧
      (after .tick (beam 261 303 0x08)).dot = 304 ∧ (after .tick (beam 261 304 0x08)).dot = 305 := by decide

/-- The first fetch dots of the two groups of dots, on a visible line and the pre-render line. -/
theorem test_witness_BackgroundFetches :
    (activeLine (after .tick (beam 0 0 0x08)) = true ∧ (after .tick (beam 0 0 0x08)).dot = 1) ∧
      (after .tick (beam 0 2 0x08)).dot = 3 ∧ (after .tick (beam 0 4 0x08)).dot = 5 ∧
      (after .tick (beam 0 254 0x08)).dot = 255 ∧
      (activeLine (after .tick (beam 261 320 0x08)) = true ∧ (after .tick (beam 261 320 0x08)).dot = 321) ∧
      (after .tick (withMapper (beam 0 334 0x08))).params.mapperAttached = true := by decide

/-- The one call of the sink at the ends of the picture, and none beside it. -/
theorem test_witness_TickWritesOnePixel :
    ((after .tick (beam 0 0 0)).scanline = 0 ∧ (after .tick (beam 0 0 0)).dot = 1) ∧
      ((after .tick (beam 239 255 0)).scanline = 239 ∧ (after .tick (beam 239 255 0)).dot = 256) ∧
      (after .tick (beam 239 256 0)).events = [] ∧ (after .tick (beam 240 0 0)).events = [] ∧
      (after .tick (beam 0 340 0)).events = [] := by decide

theorem test_witness_TickBusAddress :
    (after .tick (beam 0 0 0x08)).busAddr = 0x2000 ∧ (after .tick (beam 0 2 0x08)).busAddr = 0x23C0 ∧
      (after .tick { beam 0 4 0x08 with ntLatch := 0x12 }).busAddr = 0x0120 ∧
      (after .tick (beam 0 260 0x08)).busAddr = 0x0FF0 ∧ (after .tick (beam 0 318 0x08)).busAddr = 0x0FF8 ∧
      (after .tick (beam 0 338 0x08)).busAddr = 0x2000 ∧ (after .tick (beam 261 256 0x08)).busAddr = 0 ∧
      (after .tick (withMapper (beam 0 336 0x08))).events = [.addressBusChanged 0x2000] ∧
      (after .tick (withMapper { beam 0 336 0x08 with busAddr := 0x2000 })).events = [] ∧
      (after .tick (withMapper (beam 0 260 0x08))).events.length = 2 := by decide

theorem test_witness_ShiftAndLoad :
    (after .tick { beam 0 0 0x08 with bgPatLo := 0x8001 }).bgPatLo = 0x0002 ∧
      (after .tick { beam 0 335 0x08 with bgPatLo := 0x0080, ptLoLatch := 0xAB }).bgPatLo = 0x01AB ∧
      (after .tick { beam 0 255 0x08 with v := 0x0042, atLatch := 0xC0 }).bgAttrHi = 0x00FF ∧
      (after .tick { beam 0 256 0x08 with bgPatLo := 0x8001 }).bgPatLo = 0x8001 ∧
      (after .tick { beam 0 336 0x08 with bgPatLo := 0x8001 }).bgPatLo = 0x8001 := by decide

/-- A state whose OAM holds bytes 0xE0 and 0xE3 at the corruption source's attribute positions, at pre-render dot 256. -/
def corrupting : State := { beam 261 256 0x08 with oamAddr := 0x0F, oam := [(8, 0x11), (10, 0xE3), (15, 0x44)] }

theorem test_witness_OamAddressEffects :
    OamInv corrupting ∧ oamRead 0 (after .tick corrupting) = 0x11 ∧ oamRead 2 (after .tick corrupting) = 0xE3 ∧
      oamRead 7 (after .tick corrupting) = 0x44 ∧ (after .tick corrupting).oamAddr = 0 ∧
      (after .tick { beam 0 319 0x08 with oamAddr := 9 }).oamAddr = 0 ∧
      (after .tick { beam 0 320 0x08 with oamAddr := 9 }).oamAddr = 9 ∧
      (after .tick { beam 0 255 0x08 with oamAddr := 9 }).oamAddr = 9 := by
  refine ⟨?_, ?_⟩
  · unfold OamInv
    decide
  · decide

theorem test_witness_SecondaryOamClear :
    (after .tick (beam 239 0 0x08)).secOam = [(0, 0xFF)] ∧ (after .tick (beam 0 62 0x08)).secOam = [(31, 0xFF)] ∧
      (after .tick (beam 0 63 0x08)).secOam = [] ∧ (after .tick (beam 0 63 0x08)).dot = 64 := by decide

theorem test_witness_EvaluationStartsAndEnds :
    (activeLine (after .tick { beam 238 340 0x08 with evalN := 64 }) = true ∧
        (after .tick { beam 238 340 0x08 with evalN := 64 }).dot = 0 ∧
        (after .tick { beam 238 340 0x08 with evalN := 64 }).evalN = 0) ∧
      (after .tick { beam 239 255 0x08 with evalFound := 3, evalSprite0 := true }).next.count = 3 := by decide

/-- Entry 0 in range at dot 65, entry 63 out of range at dot 255. -/
theorem test_witness_NormalEvaluationStep :
    (after .tick { beam 10 64 0x10 with oam := [(0, 0x0A), (1, 0x42)] }).secOam = [(0, 0x0A), (1, 0x42)] ∧
      (after .tick { beam 10 64 0x10 with oam := [(0, 0x0A)] }).evalSprite0 = true ∧
      (after .tick { beam 10 254 0x10 with evalN := 63, evalFound := 7, oam := [(252, 0x0B)] }).evalFound = 7 ∧
      (after .tick { beam 10 254 0x10 with evalN := 63, evalFound := 7, oam := [(252, 0x0B)] }).evalN = 64 := by decide

/-- The byte under the rotating offset: byte 3 of entry 63. -/
theorem test_witness_BuggyEvaluationStep :
    (after .tick { beam 10 64 0x10 with evalN := 63, evalFound := 8, evalM := 3, oam := [(255, 0x0A)] }).spriteOverflow =
        true ∧
      (after .tick { beam 10 64 0x10 with evalN := 8, evalFound := 8, oam := [(32, 0x0B)] }).spriteOverflow = false ∧
      (after .tick { beam 10 64 0x10 with evalN := 63, evalFound := 8, evalM := 3, oam := [(255, 0x0A)] }).evalM = 0 ∧
      (after .tick { beam 10 64 0x10 with evalN := 8, evalFound := 8, evalSprite0 := true }).evalSprite0 = true := by
  decide

/-- Sub-steps 4, 6 and 7 of slots 0 and 7: fetched, reversed by the flip bit, and empty. -/
theorem test_witness_SpriteFetchSlots :
    (after .tick { beam 10 260 0x10 with chrFallback := [(0xFF0, 0xAB)] }).spLoLatch = 0xAB ∧
      (after .tick { beam 10 318 0x10 with chrFallback := [(0xFF8, 0xAB)] }).spHiLatch = 0xAB ∧
      (after .tick { beam 10 263 0x10 with
        spLoLatch := 0xC4, secOam := [(2, 0x40)], next := oneSprite 0 }).next.slots[0].patLo = 0x23 ∧
      (after .tick { beam 10 263 0x10 with spLoLatch := 0xC4, next := oneSprite 0 }).next.slots[0].patLo = 0xC4 ∧
      (after .tick { beam 10 319 0x10 with spLoLatch := 0xC4 }).next.slots[7].patLo = 0 ∧
      (after .tick (withMapper (beam 10 260 0x10))).params.mapperAttached = true := by decide

/-- 8 by 8 and 8 by 16, the last row, flipped and not; a line past the sprite's last (distance 10, row 2) and one before its
first (distance -1, row 7), as a change of height leaves them; and the empty slots (`test_empty_slot_address`). -/
theorem test_witness_SpriteRowAddress :
    spriteRowAddr 0 { beam 17 0 0x10 with secOam := [(0, 10), (1, 0x12)], next := oneSprite 0 } = 0x0127 ∧
      spriteRowAddr 0 { beam 10 0 0x10 with ctrl := 0x20, secOam := [(0, 10), (1, 0x13), (2, 0x80)], next := oneSprite 0 } =
        0x1137 ∧ (oneSprite 0).count = 1 ∧
      spriteRowAddr 0 { beam 20 0 0x10 with secOam := [(0, 10), (1, 0x12)], next := oneSprite 0 } = 0x0122 ∧
      spriteRowAddr 0 { beam 10 0 0x10 with secOam := [(0, 11), (1, 0x12)], next := oneSprite 0 } = 0x0127 := by decide

theorem test_witness_BufferSwap :
    (after .tick { beam 239 320 0x10 with next := oneSprite 0 }).cur = oneSprite 0 ∧
      (after .tick { beam 261 320 0x10 with next := oneSprite 0 }).cur = SpriteBuffer.zero ∧
      (after .tick { beam 0 319 0x10 with next := oneSprite 0 }).cur.count = 0 := by decide

theorem test_witness_PaletteReadAfterWrite : palIndex 0x1C = 0x0C ∧ palIndex 0x10 = 0x00 ∧ palIndex 0x1F = 0x1F := by
  decide

theorem test_witness_BusPlaceNotifiesChanges :
    State.reset.busAddr = 0 ∧ State.reset.params.mapperAttached = false ∧
      (withMapper State.reset).params.mapperAttached = true := by decide

theorem test_witness_NmiRaisedOnlyAtVBlankEntry :
    (after .tick { beam 241 0 0 with ctrl := 0x80 }).nmiPending = true ∧
      (after .pollNmi { State.reset with nmiPending := true }).nmiPending = false ∧
      (after .tick { beam 260 339 0 with nmiPending := true }).nmiPending = false := by decide

theorem test_witness_SpriteFlagLifetimes :
    (after .tick { beam 260 339 0 with sprite0Hit := true, spriteOverflow := true }).sprite0Hit = false ∧
      (after .reset { State.reset with spriteOverflow := true }).spriteOverflow = false ∧
      (after .tick (opaqueBackground { beam 0 0 0x1E with cur := oneSprite 0x20 })).sprite0Hit = true ∧
      (after .tick { beam 10 64 0x10 with evalN := 63, evalFound := 8, evalM := 3, oam := [(255, 0x0A)] }).spriteOverflow =
        true := by decide

theorem test_witness_OnlyTickAndResetDriveThePipelines : Instr.dataR ≠ .tick ∧ Instr.dataR ≠ .reset := by decide

theorem test_witness_WriteToggleWriters :
    (∃ d, Instr.addrW 0 = .scrollW d ∨ Instr.addrW 0 = .addrW d) ∧
      (∀ d, Instr.scrollR ≠ .scrollW d ∧ Instr.scrollR ≠ .addrW d) ∧ Instr.scrollR ≠ .statusR ∧
      Instr.scrollR ≠ .reset := by
  refine ⟨⟨0, .inr rfl⟩, fun d => ⟨?_, ?_⟩, ?_, ?_⟩ <;> simp

/-- A state in VBlank with a TICK issued. -/
def inVBlankState : State :=
  { beam 241 1 0 with vblank := true, inVBlank := true, nmiPending := true, vblankStartDot := true, issued := [0x2000] }

theorem test_witness_StepKeepsInvariant :
    StateInv inVBlankState ∧ ∃ t, step inVBlankState = .next t ∧ t.dot = 2 := by
  refine ⟨?_, _, rfl, by decide⟩
  unfold StateInv PositionInv StatusInv InVBlankWindow EvaluationInv BufferInv OamInv MemoryInv
  decide

/-- The whole image in one colour. -/
def fullImage (c : Rgb) (from_ n : Nat) : List (Nat × Rgb) := (List.range' from_ n).map fun k => (k, c)

theorem cellAt_fullImage (c : Rgb) (n a k : Nat) (h : a ≤ k) (hk : k < a + n) :
    cellAt (fullImage c a n) k = some c := by
  induction n generalizing a with
  | zero => omega
  | succ n ih =>
    rw [fullImage, List.range'_succ, List.map_cons, cellAt]
    split
    · rfl
    · exact ih (a + 1) (by omega) (by omega)

/-- A frame drawn to its end meets both clauses, the end of the visible lines included. -/
theorem test_witness_StepKeepsRaster :
    RasterInv { beam 240 0 0 with fb := fullImage ⟨0, 0, 0⟩ 0 61440 } ∧ 240 ≤ (beam 240 0 0).scanline := by
  refine ⟨fun x y hx hy _ => ?_, by decide⟩
  rw [pixelAt, cellAt_fullImage _ _ _ _ (by omega) (by omega)]
  simp

/-- The last position of a frame without the skip, and of one with it. -/
theorem test_witness_PositionAfterTicks :
    State.reset.scanline = 0 ∧ State.reset.dot = 0 ∧ State.reset.oddFrame = false ∧
      341 * preRender State.reset + 340 = 89341 ∧
      ({ beam 0 0 0x08 with oddFrame := true } : State).params.oddFrameSkip = true ∧ (beam 0 0 0x08).mask.getLsbD 3 = true := by
  decide

/-- A frame without the skip, and one with it. -/
theorem test_witness_FrameLength :
    frameLength State.reset = 89342 ∧ frameLength { beam 0 0 0x08 with oddFrame := true } = 89341 ∧
      (beam 0 0 0x08).scanline = 0 ∧ (beam 0 0 0x08).dot = 0 := by decide

theorem test_witness_RunToReachesTarget :
    PositionInv (beam 261 340 0x08) ∧ (Line.runTo 261 340).wellFormed (preRender (beam 261 340 0x08)) = true := by
  unfold PositionInv
  decide

end Sys2Proof.Tests
end

section
/-! PROOFS. The three outcomes of `step`, an equation for each, and the scope statement they settle. -/

namespace Sys2Proof.Machine

/-- R278: with nothing issued the block idles. -/
theorem step_of_issued_nil {s : State} (hs : s.issued = []) : step s = .next s := by
  simp only [step, hs]

/-- R9, R10: a word that spells a transaction is taken off the queue and applied. -/
theorem step_of_decode_ok {s : State} {word : OpWord} {rest : List OpWord} {i : Instr}
    (hs : s.issued = word :: rest) (hw : decode word = .ok i) : step s = exec i { s with issued := rest } := by
  simp only [step, hs, hw]

/-- R106, R262: a word that spells no transaction is refused, with the decoder's reason. -/
theorem step_of_decode_error {s : State} {word : OpWord} {rest : List OpWord} {why : Reject}
    (hs : s.issued = word :: rest) (hw : decode word = .error why) : step s = .refused (.illegalWord word why) := by
  simp only [step, hs, hw]

/-- Settles O4: the two clauses are the equations of `step` for a word that decodes and for an empty queue. -/
theorem stepRunsIssuedWord : Obligations.StepRunsIssuedWord := by
  intro s
  constructor
  · intro word rest i hs hw
    exact step_of_decode_ok hs hw
  · exact step_of_issued_nil

end Sys2Proof.Machine
end

section
/-! PROOFS. What a register transaction or a poll can write, said once; the toggle `w`; the two frame statements they settle. -/

namespace Sys2Proof.Machine

/-- Between `s` and `t` only what register transactions and polls write may differ: `vblank` and the two polled flags, the
registers of 10_state.md section 4, the memories behind the data ports, the result and the record of calls. -/
def RegisterFrame (s t : State) : Prop :=
  t = { s with
    vblank := t.vblank, nmiPending := t.nmiPending, frameComplete := t.frameComplete,
    ctrl := t.ctrl, mask := t.mask, v := t.v, t := t.t, x := t.x, w := t.w, oamAddr := t.oamAddr,
    ioLatch := t.ioLatch, readBuffer := t.readBuffer, busAddr := t.busAddr,
    ntRam := t.ntRam, palRam := t.palRam, chrFallback := t.chrFallback, oam := t.oam,
    result := t.result, events := t.events }

theorem RegisterFrame.trans {s t u : State} (hst : RegisterFrame s t) (htu : RegisterFrame t u) :
    RegisterFrame s u := by
  unfold RegisterFrame at *
  rw [htu, hst]

variable (s : State)

theorem memWrite_registerFrame (a : BusAddr) (b : Byte) : RegisterFrame s (memWrite a b s) := by
  unfold RegisterFrame
  rw [memWrite_eq]

theorem dataIncrement_registerFrame : RegisterFrame s (dataIncrement s) := by
  unfold RegisterFrame
  rw [dataIncrement_frame]

theorem readData_registerFrame : RegisterFrame s (readData s).2 := by
  unfold RegisterFrame
  rw [readData_frame]

theorem storeOamData_registerFrame (d : Byte) : RegisterFrame s (storeOamData d s) := by
  unfold RegisterFrame storeOamData
  split <;> rfl

theorem writeScroll_registerFrame (d : Byte) : RegisterFrame s (writeScroll d s) := by
  unfold RegisterFrame writeScroll
  split <;> rfl

theorem writeAddr_registerFrame (d : Byte) : RegisterFrame s (writeAddr d s) := by
  unfold RegisterFrame writeAddr
  simp only [busPlace_eq]
  split
  · split <;> rfl
  · rfl

theorem endWrite_registerFrame (d : Byte) : RegisterFrame s (endWrite d s) := rfl

theorem endRead_registerFrame (b : Byte) : RegisterFrame s (endRead b s) := rfl

/-- Every transaction but TICK and RESET completes within `RegisterFrame`. -/
theorem exec_registerFrame (i : Instr) (htick : i ≠ .tick) (hreset : i ≠ .reset) :
    ∃ t, exec i s = .next t ∧ RegisterFrame s t := by
  cases i with
  | tick => exact absurd rfl htick
  | reset => exact absurd rfl hreset
  | oamDataW d => exact ⟨_, rfl, (storeOamData_registerFrame s d).trans (endWrite_registerFrame _ d)⟩
  | scrollW d => exact ⟨_, rfl, (writeScroll_registerFrame s d).trans (endWrite_registerFrame _ d)⟩
  | addrW d => exact ⟨_, rfl, (writeAddr_registerFrame s d).trans (endWrite_registerFrame _ d)⟩
  | dataW d =>
    exact ⟨_, rfl, ((memWrite_registerFrame s _ d).trans (dataIncrement_registerFrame _)).trans
      (endWrite_registerFrame _ d)⟩
  | dataR =>
    exact ⟨_, rfl, ((readData_registerFrame s).trans (dataIncrement_registerFrame _)).trans
      (endRead_registerFrame _ _)⟩
  | ctrlW | maskW | statusW | oamAddrW | ctrlR | maskR | statusR | oamAddrR | oamDataR | scrollR | addrR | pollNmi
  | pollFrame => exact ⟨_, rfl, rfl⟩

/-- Settles O53: none of the fields named is among those of `RegisterFrame`. -/
theorem onlyTickAndResetDriveThePipelines : Obligations.OnlyTickAndResetDriveThePipelines := by
  intro i s htick hreset
  obtain ⟨t, ht, hframe⟩ := exec_registerFrame s i htick hreset
  refine ⟨t, ht, ?_⟩
  rw [hframe]
  simp only [and_self]

/-! The toggle `w` (R38). -/

@[simp] theorem memWrite_w (a : BusAddr) (b : Byte) : (memWrite a b s).w = s.w := by rw [memWrite_eq]

@[simp] theorem dataIncrement_w : (dataIncrement s).w = s.w := by rw [dataIncrement_frame]

@[simp] theorem readData_w : (readData s).2.w = s.w := by rw [readData_frame]

@[simp] theorem storeOamData_w (d : Byte) : (storeOamData d s).w = s.w := by
  unfold storeOamData
  split <;> rfl

@[simp] theorem writeScroll_w (d : Byte) : (writeScroll d s).w = !s.w := by
  unfold writeScroll
  split <;> simp [*]

@[simp] theorem writeAddr_w (d : Byte) : (writeAddr d s).w = !s.w := by
  unfold writeAddr
  simp only [busPlace_eq]
  split
  · split <;> simp [*]
  · simp [*]

/-- The toggle after a transaction: flipped by the two double writes, cleared by STATUS_R and RESET, else kept. -/
def toggleAfter (i : Instr) (w : Bool) : Bool :=
  match i with
  | .scrollW _ | .addrW _ => !w
  | .statusR | .reset => false
  | _ => w

theorem exec_toggle (i : Instr) : ∃ t, exec i s = .next t ∧ t.w = toggleAfter i s.w := by
  cases i with
  | scrollW d => exact ⟨_, rfl, writeScroll_w s d⟩
  | addrW d => exact ⟨_, rfl, writeAddr_w s d⟩
  | oamDataW d => exact ⟨_, rfl, storeOamData_w s d⟩
  | dataW d => exact ⟨_, rfl, (dataIncrement_w _).trans (memWrite_w s _ d)⟩
  | dataR => exact ⟨_, rfl, (dataIncrement_w _).trans (readData_w s)⟩
  | tick => exact ⟨_, rfl, tickState_w s⟩
  | ctrlW | maskW | statusW | oamAddrW | ctrlR | maskR | statusR | oamAddrR | oamDataR | scrollR | addrR | reset
  | pollNmi | pollFrame => exact ⟨_, rfl, rfl⟩

/-- Settles O54: the three clauses are the three values of `toggleAfter`. -/
theorem writeToggleWriters : Obligations.WriteToggleWriters := by
  intro i s
  obtain ⟨t, ht, hw⟩ := exec_toggle s i
  refine ⟨t, ht, ?_, ?_, ?_⟩
  · rintro ⟨d, rfl | rfl⟩ <;> exact hw
  · rintro (rfl | rfl) <;> exact hw
  · intro hflip hstatus hreset
    rw [hw]
    unfold toggleAfter
    split
    · exact absurd rfl (hflip _).1
    · exact absurd rfl (hflip _).2
    · exact absurd rfl hstatus
    · exact absurd rfl hreset
    · rfl

end Sys2Proof.Machine
end

section
/-! PROOFS. What the sub-steps of a TICK can do: one inversion per sub-step, on which the TICK's frame, the flags' lifetimes
and the invariant rest. -/

namespace Sys2Proof.Machine

variable {s t : State}

/-! The rendering step and its parts. -/

/-- What the evaluation work of a dot can be (R201 to R210). -/
inductive EvaluationWork (s : State) : State → Prop
  | start (hdot : s.dot = 0) : EvaluationWork s (resetEvaluation s)
  | clear (hlo : 1 ≤ s.dot) (hhi : s.dot ≤ 64) (hodd : s.dot % 2 = 1) :
      EvaluationWork s (secWrite ((s.dot - 1) / 2) 0xFF#8 s)
  | normal (hlo : 65 ≤ s.dot) (hhi : s.dot ≤ 255) (hodd : s.dot % 2 = 1) (hn : s.evalN < 64) (hf : s.evalFound < 8) :
      EvaluationWork s (normalStep s)
  | buggy (hlo : 65 ≤ s.dot) (hhi : s.dot ≤ 255) (hodd : s.dot % 2 = 1) (hn : s.evalN < 64) (hf : s.evalFound = 8) :
      EvaluationWork s (buggyStep s)
  | finish (hdot : s.dot = 256) : EvaluationWork s (finalizeEvaluation s)
  | idle : EvaluationWork s s

theorem evaluationDot_work (s : State) : EvaluationWork s (evaluationDot s) := by
  unfold evaluationDot
  dsimp only
  split_ifs with hstart hclear heval hfinish
  · exact .start hstart
  · obtain ⟨hlo, hhi, hodd⟩ := hclear
    exact .clear hlo hhi hodd
  · obtain ⟨hlo, hhi, hodd⟩ := heval
    unfold evaluationStep
    split_ifs with hn hless height
    · exact .normal hlo hhi hodd hn hless
    · exact .buggy hlo hhi hodd hn height
    · exact .idle
    · exact .idle
  · exact .finish hfinish
  · exact .idle

/-- What the fetch and swap work of a dot can be (R211, R217, R219). -/
inductive SpriteBufferWork (s : State) : State → Prop
  | fetchLow (hlo : 257 ≤ s.dot) (hhi : s.dot ≤ 320) (hstep : (s.dot - 257) % 8 = 4) :
      SpriteBufferWork s (fetchSpriteLow ((s.dot - 257) / 8) s)
  | fetchHigh (hlo : 257 ≤ s.dot) (hhi : s.dot ≤ 320) (hstep : (s.dot - 257) % 8 = 6) :
      SpriteBufferWork s (fetchSpriteHigh ((s.dot - 257) / 8) s)
  | load (hlo : 257 ≤ s.dot) (hhi : s.dot ≤ 320) (hstep : (s.dot - 257) % 8 = 7) :
      SpriteBufferWork s (loadSlot ((s.dot - 257) / 8) s)
  | dummyRead : SpriteBufferWork s (dummyNametableRead s)
  | swap (hdot : s.dot = 321) : SpriteBufferWork s (swapBuffers s)
  | idle : SpriteBufferWork s s

theorem spriteBufferDot_work (s : State) : SpriteBufferWork s (spriteBufferDot s) := by
  unfold spriteBufferDot
  split_ifs with hfetch hswap
  · obtain ⟨hlo, hhi⟩ := hfetch
    unfold spriteFetchDot spriteFetchStep
    split
    · exact .dummyRead
    · exact .dummyRead
    · exact .fetchLow hlo hhi ‹_›
    · exact .fetchHigh hlo hhi ‹_›
    · exact .load hlo hhi ‹_›
    · exact .idle
  · exact .swap hswap
  · exact .idle

/-- The state the evaluation work of a dot starts from: after the background step and the OAM address effects (R150, R200). -/
def beforeEvaluation (s : State) : State := oamAddressDot (backgroundDot s)

theorem beforeEvaluation_frame (s : State) :
    beforeEvaluation s = { backgroundDot s with
      oamAddr := (beforeEvaluation s).oamAddr, oam := (beforeEvaluation s).oam } :=
  oamAddressDot_frame _

section
variable (s : State)

@[simp] theorem beforeEvaluation_scanline : (beforeEvaluation s).scanline = s.scanline := by
  rw [beforeEvaluation_frame, backgroundDot_frame]
@[simp] theorem beforeEvaluation_dot : (beforeEvaluation s).dot = s.dot := by
  rw [beforeEvaluation_frame, backgroundDot_frame]
@[simp] theorem beforeEvaluation_secOam : (beforeEvaluation s).secOam = s.secOam := by
  rw [beforeEvaluation_frame, backgroundDot_frame]
@[simp] theorem beforeEvaluation_evalN : (beforeEvaluation s).evalN = s.evalN := by
  rw [beforeEvaluation_frame, backgroundDot_frame]
@[simp] theorem beforeEvaluation_evalM : (beforeEvaluation s).evalM = s.evalM := by
  rw [beforeEvaluation_frame, backgroundDot_frame]
@[simp] theorem beforeEvaluation_evalFound : (beforeEvaluation s).evalFound = s.evalFound := by
  rw [beforeEvaluation_frame, backgroundDot_frame]
@[simp] theorem beforeEvaluation_evalSprite0 : (beforeEvaluation s).evalSprite0 = s.evalSprite0 := by
  rw [beforeEvaluation_frame, backgroundDot_frame]
@[simp] theorem beforeEvaluation_spriteOverflow : (beforeEvaluation s).spriteOverflow = s.spriteOverflow := by
  rw [beforeEvaluation_frame, backgroundDot_frame]
@[simp] theorem beforeEvaluation_next : (beforeEvaluation s).next = s.next := by
  rw [beforeEvaluation_frame, backgroundDot_frame]
@[simp] theorem beforeEvaluation_spLoLatch : (beforeEvaluation s).spLoLatch = s.spLoLatch := by
  rw [beforeEvaluation_frame, backgroundDot_frame]
@[simp] theorem beforeEvaluation_spHiLatch : (beforeEvaluation s).spHiLatch = s.spHiLatch := by
  rw [beforeEvaluation_frame, backgroundDot_frame]

end

/-- What the rendering step of a dot can be (R150, R200). -/
inductive RenderWork (s : State) : State → Prop
  | off (hactive : activeLine s = false) : RenderWork s s
  | preRenderLine (hactive : activeLine s = true) (hline : 239 < s.scanline) : RenderWork s (beforeEvaluation s)
  | visibleLine (e t : State) (hactive : activeLine s = true) (hline : s.scanline ≤ 239)
      (heval : EvaluationWork (beforeEvaluation s) e) (hbuffer : SpriteBufferWork e t) : RenderWork s t

theorem renderDot_work (s : State) : RenderWork s (renderDot s) := by
  have hscanline : (oamAddressDot (backgroundDot s)).scanline = s.scanline := beforeEvaluation_scanline s
  unfold renderDot spriteDot
  dsimp only
  split_ifs with hactive hvisible
  · have hline : s.scanline ≤ 239 := by simpa [visible, hscanline] using hvisible
    exact .visibleLine _ _ hactive hline (evaluationDot_work _) (spriteBufferDot_work _)
  · have hline : 239 < s.scanline := by simpa [visible, hscanline] using hvisible
    exact .preRenderLine hactive hline
  · exact .off (by simpa using hactive)

/-! What each part leaves unchanged, by the dot. -/

/-- A tile-group step writes a fetch latch at its own sub-step only (R174 to R178). -/
theorem fetchStep_latches (k : Nat) (s : State) :
    (k ≠ 0 → (fetchStep k s).ntLatch = s.ntLatch) ∧ (k ≠ 2 → (fetchStep k s).atLatch = s.atLatch) ∧
      (k ≠ 4 → (fetchStep k s).ptLoLatch = s.ptLoLatch) ∧ (k ≠ 6 → (fetchStep k s).ptHiLatch = s.ptHiLatch) := by
  unfold fetchStep
  split <;>
    simp [fetchNametable, fetchAttribute, fetchPatternLow, fetchPatternHigh, loadShiftRegisters, memRead_eq]

/-- A fetch latch changes on its own fetch dots only (R46, R174). -/
theorem bgFetchDot_latches (s : State) :
    (¬ (inFetchDots s.dot = true ∧ (s.dot - 1) % 8 = 0) → (bgFetchDot s).ntLatch = s.ntLatch) ∧
      (¬ (inFetchDots s.dot = true ∧ (s.dot - 1) % 8 = 2) → (bgFetchDot s).atLatch = s.atLatch) ∧
      (¬ (inFetchDots s.dot = true ∧ (s.dot - 1) % 8 = 4) → (bgFetchDot s).ptLoLatch = s.ptLoLatch) ∧
      (¬ (inFetchDots s.dot = true ∧ (s.dot - 1) % 8 = 6) → (bgFetchDot s).ptHiLatch = s.ptHiLatch) := by
  unfold bgFetchDot
  split
  next hdots =>
    simp only [hdots, true_and]
    exact fetchStep_latches _ (shiftRegisters s)
  next => exact ⟨fun _ => rfl, fun _ => rfl, fun _ => rfl, fun _ => rfl⟩

namespace EvaluationWork

/-- The counters move at dot 0 and in an evaluation step only (R50, R201, R203). -/
theorem counters_eq (h : EvaluationWork s t)
    (hdot : ¬ (s.dot = 0 ∨ (65 ≤ s.dot ∧ s.dot ≤ 255 ∧ s.dot % 2 = 1 ∧ s.evalN < 64))) :
    t.evalN = s.evalN ∧ t.evalM = s.evalM ∧ t.evalFound = s.evalFound ∧ t.evalSprite0 = s.evalSprite0 := by
  cases h with
  | start hstart => exact absurd (.inl hstart) hdot
  | normal hlo hhi hodd hn => exact absurd (.inr ⟨hlo, hhi, hodd, hn⟩) hdot
  | buggy hlo hhi hodd hn => exact absurd (.inr ⟨hlo, hhi, hodd, hn⟩) hdot
  | clear | finish | idle => exact ⟨rfl, rfl, rfl, rfl⟩

/-- Secondary OAM is written by the clear and by a normal evaluation step only (R49, R202, R205). -/
theorem secOam_eq (h : EvaluationWork s t)
    (hdot : ¬ (s.dot % 2 = 1 ∧ (s.dot ≤ 63 ∨ (65 ≤ s.dot ∧ s.dot ≤ 255 ∧ s.evalN < 64 ∧ s.evalFound < 8)))) :
    t.secOam = s.secOam := by
  cases h with
  | clear hlo hhi hodd => exact absurd ⟨hodd, .inl (by omega)⟩ hdot
  | normal hlo hhi hodd hn hf => exact absurd ⟨hodd, .inr ⟨hlo, hhi, hn, hf⟩⟩ hdot
  | start | buggy | finish | idle => rfl

/-- Evaluation writes the head of the next buffer at dot 256 only (R210). -/
theorem next_eq (h : EvaluationWork s t) (hdot : s.dot ≠ 256) : t.next = s.next := by
  cases h with
  | finish hfinish => exact absurd hfinish hdot
  | start | clear | normal | buggy | idle => rfl

theorem spriteLatches_eq (h : EvaluationWork s t) : t.spLoLatch = s.spLoLatch ∧ t.spHiLatch = s.spHiLatch := by
  cases h <;> exact ⟨rfl, rfl⟩

theorem dot_eq (h : EvaluationWork s t) : t.dot = s.dot := by cases h <;> rfl

theorem events_eq (h : EvaluationWork s t) : t.events = s.events := by cases h <;> rfl

end EvaluationWork

/-- A read only adds to the record of calls (log entry 3). -/
theorem events_suffix_readEvents (a : BusAddr) (s : State) : s.events <:+ readEvents a s := by
  have hbus : s.events <:+ busEvents a s := by
    unfold busEvents
    split
    · exact List.suffix_cons _ _
    · exact List.suffix_rfl
  unfold readEvents
  split
  · exact hbus.trans (List.suffix_cons _ _)
  · exact hbus

namespace SpriteBufferWork

/-- The fetch and swap work never touches the evaluation state (R200). -/
theorem evaluation_eq (h : SpriteBufferWork s t) :
    (t.evalN = s.evalN ∧ t.evalM = s.evalM ∧ t.evalFound = s.evalFound ∧ t.evalSprite0 = s.evalSprite0) ∧
      t.secOam = s.secOam ∧ t.spriteOverflow = s.spriteOverflow := by
  cases h <;>
    simp [fetchSpriteLow, fetchSpriteHigh, loadSlot, dummyNametableRead_eq, memRead_eq]

/-- The low sprite latch changes at sub-step 4 of a slot's fetch only (R51, R211). -/
theorem spLoLatch_eq (h : SpriteBufferWork s t) (hdot : ¬ ((257 ≤ s.dot ∧ s.dot ≤ 320) ∧ (s.dot - 257) % 8 = 4)) :
    t.spLoLatch = s.spLoLatch := by
  cases h with
  | fetchLow hlo hhi hstep => exact absurd ⟨⟨hlo, hhi⟩, hstep⟩ hdot
  | fetchHigh => rw [fetchSpriteHigh, memRead_eq]
  | dummyRead => rw [dummyNametableRead_eq]
  | load | swap | idle => rfl

/-- The high sprite latch changes at sub-step 6 of a slot's fetch only (R51, R211). -/
theorem spHiLatch_eq (h : SpriteBufferWork s t) (hdot : ¬ ((257 ≤ s.dot ∧ s.dot ≤ 320) ∧ (s.dot - 257) % 8 = 6)) :
    t.spHiLatch = s.spHiLatch := by
  cases h with
  | fetchHigh hlo hhi hstep => exact absurd ⟨⟨hlo, hhi⟩, hstep⟩ hdot
  | fetchLow => rw [fetchSpriteLow, memRead_eq]
  | dummyRead => rw [dummyNametableRead_eq]
  | load | swap | idle => rfl

/-- The next buffer changes when a slot is loaded and when the buffers are swapped only (R217, R219). -/
theorem next_eq (h : SpriteBufferWork s t)
    (hdot : ¬ (s.dot = 321 ∨ ((257 ≤ s.dot ∧ s.dot ≤ 320) ∧ (s.dot - 257) % 8 = 7))) : t.next = s.next := by
  cases h with
  | load hlo hhi hstep => exact absurd (.inr ⟨⟨hlo, hhi⟩, hstep⟩) hdot
  | swap hswap => exact absurd (.inl hswap) hdot
  | fetchLow => rw [fetchSpriteLow, memRead_eq]
  | fetchHigh => rw [fetchSpriteHigh, memRead_eq]
  | dummyRead => rw [dummyNametableRead_eq]
  | idle => rfl

theorem events_suffix (h : SpriteBufferWork s t) : s.events <:+ t.events := by
  cases h with
  | fetchLow => simpa only [fetchSpriteLow, memRead_eq] using events_suffix_readEvents _ s
  | fetchHigh => simpa only [fetchSpriteHigh, memRead_eq] using events_suffix_readEvents _ s
  | dummyRead => simpa only [dummyNametableRead_eq] using events_suffix_readEvents _ s
  | load | swap | idle => exact List.suffix_rfl

end SpriteBufferWork

theorem events_suffix_fetchStep (k : Nat) (s : State) : s.events <:+ (fetchStep k s).events := by
  unfold fetchStep
  split
  · simpa only [fetchNametable, memRead_eq] using events_suffix_readEvents _ s
  · simpa only [fetchAttribute, memRead_eq] using events_suffix_readEvents _ s
  · simpa only [fetchPatternLow, memRead_eq] using events_suffix_readEvents _ s
  · simpa only [fetchPatternHigh, memRead_eq] using events_suffix_readEvents _ s
  · exact List.suffix_rfl
  · exact List.suffix_rfl

theorem events_suffix_backgroundDot (s : State) : s.events <:+ (backgroundDot s).events := by
  have hfetch : s.events <:+ (bgFetchDot s).events := by
    unfold bgFetchDot
    split
    · exact events_suffix_fetchStep _ (shiftRegisters s)
    · exact List.suffix_rfl
  refine hfetch.trans ?_
  unfold backgroundDot bgFixedDots
  simp only [dummyNametableRead_eq]
  split
  · exact events_suffix_readEvents _ { bgFetchDot s with v := fixedDotsV (bgFetchDot s) }
  · exact List.suffix_rfl

theorem events_suffix_composeDot (s : State) : s.events <:+ (composeDot s).events := by
  unfold composeDot composePixel updateSprite0Hit
  split
  · dsimp only
    split <;> exact List.suffix_cons _ _
  · exact List.suffix_rfl

/-- A fetch latch changes on its own fetch dots of an active line only (R46, R174). -/
theorem renderDot_latches (s : State) :
    (¬ (activeLine s = true ∧ inFetchDots s.dot = true ∧ (s.dot - 1) % 8 = 0) → (renderDot s).ntLatch = s.ntLatch) ∧
      (¬ (activeLine s = true ∧ inFetchDots s.dot = true ∧ (s.dot - 1) % 8 = 2) → (renderDot s).atLatch = s.atLatch) ∧
      (¬ (activeLine s = true ∧ inFetchDots s.dot = true ∧ (s.dot - 1) % 8 = 4) →
        (renderDot s).ptLoLatch = s.ptLoLatch) ∧
      (¬ (activeLine s = true ∧ inFetchDots s.dot = true ∧ (s.dot - 1) % 8 = 6) →
        (renderDot s).ptHiLatch = s.ptHiLatch) := by
  unfold renderDot
  split
  next hactive =>
    rw [spriteDot_frame, backgroundDot, bgFixedDots_frame]
    simp only [hactive, true_and]
    exact bgFetchDot_latches s
  next => exact ⟨fun _ => rfl, fun _ => rfl, fun _ => rfl, fun _ => rfl⟩

namespace RenderWork

/-- R50: the evaluation counters move on visible active lines only, at dot 0 and in an evaluation step. -/
theorem counters_eq (h : RenderWork s t)
    (hdot : ¬ (activeLine s = true ∧ s.scanline ≤ 239 ∧ (s.dot = 0 ∨
      (65 ≤ s.dot ∧ s.dot ≤ 255 ∧ s.dot % 2 = 1 ∧ s.evalN < 64)))) :
    t.evalN = s.evalN ∧ t.evalM = s.evalM ∧ t.evalFound = s.evalFound ∧ t.evalSprite0 = s.evalSprite0 := by
  cases h with
  | off => exact ⟨rfl, rfl, rfl, rfl⟩
  | preRenderLine => simp
  | visibleLine e _ hactive hline heval hbuffer =>
    have he := heval.counters_eq (by simpa [hactive, hline] using hdot)
    obtain ⟨ht, -, -⟩ := hbuffer.evaluation_eq
    simpa [ht] using he

/-- R49: secondary OAM is written on visible active lines only, by the clear and by a normal evaluation step. -/
theorem secOam_eq (h : RenderWork s t)
    (hdot : ¬ (activeLine s = true ∧ s.scanline ≤ 239 ∧ s.dot % 2 = 1 ∧ (s.dot ≤ 63 ∨
      (65 ≤ s.dot ∧ s.dot ≤ 255 ∧ s.evalN < 64 ∧ s.evalFound < 8)))) : t.secOam = s.secOam := by
  cases h with
  | off => rfl
  | preRenderLine => simp
  | visibleLine e _ hactive hline heval hbuffer =>
    have he := heval.secOam_eq (by simpa [hactive, hline] using hdot)
    obtain ⟨-, ht, -⟩ := hbuffer.evaluation_eq
    simpa [ht] using he

/-- R51: the sprite fetch latches change at their own sub-step of a slot's fetch only. -/
theorem spriteLatches_eq (h : RenderWork s t) :
    (¬ (activeLine s = true ∧ s.scanline ≤ 239 ∧ (257 ≤ s.dot ∧ s.dot ≤ 320) ∧ (s.dot - 257) % 8 = 4) →
        t.spLoLatch = s.spLoLatch) ∧
      (¬ (activeLine s = true ∧ s.scanline ≤ 239 ∧ (257 ≤ s.dot ∧ s.dot ≤ 320) ∧ (s.dot - 257) % 8 = 6) →
        t.spHiLatch = s.spHiLatch) := by
  cases h with
  | off => exact ⟨fun _ => rfl, fun _ => rfl⟩
  | preRenderLine => simp
  | visibleLine e _ hactive hline heval hbuffer =>
    have hdot : e.dot = s.dot := by simpa using heval.dot_eq
    obtain ⟨hlo, hhi⟩ : e.spLoLatch = s.spLoLatch ∧ e.spHiLatch = s.spHiLatch := by simpa using heval.spriteLatches_eq
    simp only [hactive, hline, true_and, ← hdot, ← hlo, ← hhi]
    exact ⟨hbuffer.spLoLatch_eq, hbuffer.spHiLatch_eq⟩

/-- R51: the next buffer changes at the end of evaluation, when a slot is loaded and at the swap only. -/
theorem next_eq (h : RenderWork s t)
    (hdot : ¬ (activeLine s = true ∧ s.scanline ≤ 239 ∧ (s.dot = 256 ∨ s.dot = 321 ∨
      ((257 ≤ s.dot ∧ s.dot ≤ 320) ∧ (s.dot - 257) % 8 = 7)))) : t.next = s.next := by
  cases h with
  | off => rfl
  | preRenderLine => simp
  | visibleLine e _ hactive hline heval hbuffer =>
    simp only [hactive, hline, true_and, not_or] at hdot
    obtain ⟨hfinish, hswap, hload⟩ := hdot
    have hedot : e.dot = s.dot := by simpa using heval.dot_eq
    have he : e.next = s.next := by simpa using heval.next_eq (by simpa using hfinish)
    rw [← he]
    exact hbuffer.next_eq (by simp only [hedot, not_or]; exact ⟨hswap, hload⟩)

theorem events_suffix (h : RenderWork s t) : s.events <:+ t.events := by
  have hbefore : s.events <:+ (beforeEvaluation s).events := by
    rw [beforeEvaluation_frame]
    exact events_suffix_backgroundDot s
  cases h with
  | off => exact List.suffix_rfl
  | preRenderLine => exact hbefore
  | visibleLine e _ _ _ heval hbuffer => exact (heval.events_eq ▸ hbefore).trans hbuffer.events_suffix

end RenderWork

/-! The TICK's own frame (O23). -/

section
variable (s : State)

@[simp] theorem beforeRender_scanline : (beforeRender s).scanline = (advanceTiming s).scanline := by
  rw [beforeRender_frame]
@[simp] theorem beforeRender_dot : (beforeRender s).dot = (advanceTiming s).dot := by rw [beforeRender_frame]
@[simp] theorem beforeRender_ntLatch : (beforeRender s).ntLatch = s.ntLatch := by rw [beforeRender_frame]
@[simp] theorem beforeRender_atLatch : (beforeRender s).atLatch = s.atLatch := by rw [beforeRender_frame]
@[simp] theorem beforeRender_ptLoLatch : (beforeRender s).ptLoLatch = s.ptLoLatch := by rw [beforeRender_frame]
@[simp] theorem beforeRender_ptHiLatch : (beforeRender s).ptHiLatch = s.ptHiLatch := by rw [beforeRender_frame]
@[simp] theorem beforeRender_secOam : (beforeRender s).secOam = s.secOam := by rw [beforeRender_frame]
@[simp] theorem beforeRender_evalN : (beforeRender s).evalN = s.evalN := by rw [beforeRender_frame]
@[simp] theorem beforeRender_evalM : (beforeRender s).evalM = s.evalM := by rw [beforeRender_frame]
@[simp] theorem beforeRender_evalFound : (beforeRender s).evalFound = s.evalFound := by rw [beforeRender_frame]
@[simp] theorem beforeRender_evalSprite0 : (beforeRender s).evalSprite0 = s.evalSprite0 := by rw [beforeRender_frame]
@[simp] theorem beforeRender_next : (beforeRender s).next = s.next := by rw [beforeRender_frame]
@[simp] theorem beforeRender_spLoLatch : (beforeRender s).spLoLatch = s.spLoLatch := by rw [beforeRender_frame]
@[simp] theorem beforeRender_spHiLatch : (beforeRender s).spHiLatch = s.spHiLatch := by rw [beforeRender_frame]

theorem renderingEnabled_beforeRender : renderingEnabled (beforeRender s) = renderingEnabled s := by
  rw [beforeRender_frame]
  rfl

/-- A TICK's line is active after it exactly when its rendering step finds it so: rendering writes neither the position nor
the mask. -/
theorem activeLine_tickState : activeLine (tickState s) = activeLine (beforeRender s) := by
  rw [tickState_eq, renderDot_frame]
  rfl

theorem events_suffix_beforeRender : s.events <:+ (beforeRender s).events := by
  have hkept : (vblankTransitions (advanceTiming s)).events = s.events := by
    rw [vblankTransitions_frame, advanceTiming_frame]
  exact hkept ▸ events_suffix_composeDot (vblankTransitions (advanceTiming s))

end

/-- Settles O23: each clause is the rendering step's lemma of that field, since nothing before it writes the field. -/
theorem tickFrame : Obligations.TickFrame := by
  intro s bgDot spDot hbg hsp
  have hfetch (d : Nat) : bgDot d ↔ inFetchDots d = true := by simp [hbg, inFetchDots]
  have hwork : RenderWork (beforeRender s) (renderDot (beforeRender s)) := renderDot_work _
  obtain ⟨hnt, hat, hlo, hhi⟩ := renderDot_latches (beforeRender s)
  have hcounters := hwork.counters_eq
  have hsec := hwork.secOam_eq
  obtain ⟨hspLo, hspHi⟩ := hwork.spriteLatches_eq
  have hnext := hwork.next_eq
  obtain ⟨calls, hcalls⟩ := (events_suffix_beforeRender s).trans hwork.events_suffix
  simp only [beforeRender_scanline, beforeRender_dot, beforeRender_ntLatch, beforeRender_atLatch,
    beforeRender_ptLoLatch, beforeRender_ptHiLatch, beforeRender_secOam, beforeRender_evalN, beforeRender_evalM,
    beforeRender_evalFound, beforeRender_evalSprite0, beforeRender_next, beforeRender_spLoLatch,
    beforeRender_spHiLatch] at hnt hat hlo hhi hcounters hsec hspLo hspHi hnext
  refine ⟨tickState s, rfl, by simp, ?_⟩
  simp only [activeLine_tickState, tickState_scanline, tickState_dot, hfetch, hsp]
  exact ⟨hnt, hat, hlo, hhi, hcounters, hsec, hspLo, hspHi, hnext, calls, hcalls.symm⟩

end Sys2Proof.Machine
end

section
/-! PROOFS. The VBlank transitions of a TICK, and the lifetimes of the two sprite flags. -/

namespace Sys2Proof.Machine

variable {s t : State}

/-- What the VBlank transitions of a TICK can be (R154, R155, R157). -/
inductive VBlankWork (s : State) : State → Prop
  | enter (hline : s.scanline = 241) (hdot : s.dot = 1) : VBlankWork s (enterVBlank { s with vblankStartDot := false })
  | exit (hline : s.scanline = preRender s - 1) (hdot : s.dot = 340) :
      VBlankWork s (exitVBlank { s with vblankStartDot := false })
  | none (hentry : ¬ (s.scanline = 241 ∧ s.dot = 1)) (hexit : ¬ (s.scanline = preRender s - 1 ∧ s.dot = 340)) :
      VBlankWork s { s with vblankStartDot := false }

theorem vblankTransitions_work (s : State) : VBlankWork s (vblankTransitions s) := by
  unfold vblankTransitions
  dsimp only
  split_ifs with hentry hboth hexit
  · have hdot : s.dot = 340 := hboth.2
    omega
  · exact .enter hentry.1 hentry.2
  · exact .exit hexit.1 hexit.2
  · exact .none hentry hexit

theorem VBlankWork.spriteFlags (h : VBlankWork s t) :
    (t.sprite0Hit = s.sprite0Hit ∧ t.spriteOverflow = s.spriteOverflow) ∨
      (s.scanline = preRender s - 1 ∧ s.dot = 340 ∧ t.sprite0Hit = false ∧ t.spriteOverflow = false) := by
  cases h with
  | exit hline hdot => exact .inr ⟨hline, hdot, rfl, rfl⟩
  | enter | none => exact .inl ⟨rfl, rfl⟩

/-- R27, R244, R249: the compositor leaves `sprite0Hit` or, on a visible dot with rendering enabled, sets it. -/
theorem composeDot_sprite0Hit (s : State) :
    (composeDot s).sprite0Hit = s.sprite0Hit ∨
      ((composeDot s).sprite0Hit = true ∧ s.scanline ≤ 239 ∧ 1 ≤ s.dot ∧ s.dot ≤ 256 ∧ renderingEnabled s = true) := by
  unfold composeDot composePixel updateSprite0Hit
  split
  next hvisible =>
    obtain ⟨hline, hlo, hhi⟩ := hvisible
    dsimp only
    split
    next hhit =>
      obtain ⟨henabled, -⟩ := Bool.and_eq_true_iff.1 hhit
      exact .inr ⟨rfl, of_decide_eq_true hline, hlo, hhi, henabled⟩
    next => exact .inl rfl
  next => exact .inl rfl

/-- R28, R209: evaluation leaves `spriteOverflow` or, in the buggy mode, sets it. -/
theorem EvaluationWork.spriteOverflow (h : EvaluationWork s t) :
    t.spriteOverflow = s.spriteOverflow ∨
      (t.spriteOverflow = true ∧ 65 ≤ s.dot ∧ s.dot ≤ 255 ∧ s.dot % 2 = 1 ∧ s.evalFound = 8 ∧ s.evalN < 64) := by
  cases h with
  | buggy hlo hhi hodd hn hf =>
    by_cases hset : (buggyStep s).spriteOverflow = true
    · exact .inr ⟨hset, hlo, hhi, hodd, hf, hn⟩
    · exact .inl (by simp_all [buggyStep])
  | start | clear | normal | finish | idle => exact .inl rfl

theorem activeLine_renderingEnabled (h : activeLine s = true) : renderingEnabled s = true :=
  (Bool.and_eq_true_iff.1 h).1

/-- R28, R209: the rendering step leaves `spriteOverflow` or, in the buggy mode on a visible active line, sets it. -/
theorem RenderWork.spriteOverflow (h : RenderWork s t) :
    t.spriteOverflow = s.spriteOverflow ∨
      (t.spriteOverflow = true ∧ s.scanline ≤ 239 ∧ 65 ≤ s.dot ∧ s.dot ≤ 255 ∧ s.dot % 2 = 1 ∧
        renderingEnabled s = true ∧ s.evalFound = 8 ∧ s.evalN < 64) := by
  cases h with
  | off => exact .inl rfl
  | preRenderLine => exact .inl (beforeEvaluation_spriteOverflow s)
  | visibleLine e _ hactive hline heval hbuffer =>
    obtain ⟨-, -, ht⟩ := hbuffer.evaluation_eq
    simpa [ht, hline, activeLine_renderingEnabled hactive] using heval.spriteOverflow

@[simp] theorem preRender_advanceTiming (s : State) : preRender (advanceTiming s) = preRender s := by
  rw [advanceTiming_frame]
  rfl

theorem advanceTiming_spriteFlags (s : State) :
    (advanceTiming s).sprite0Hit = s.sprite0Hit ∧ (advanceTiming s).spriteOverflow = s.spriteOverflow := by
  rw [advanceTiming_frame]
  exact ⟨rfl, rfl⟩

/-- The two flags before a TICK's pixel: as they were, or cleared on the dot that leaves VBlank. -/
theorem vblankTransitions_advanceTiming_spriteFlags (s : State) :
    ((vblankTransitions (advanceTiming s)).sprite0Hit = s.sprite0Hit ∧
        (vblankTransitions (advanceTiming s)).spriteOverflow = s.spriteOverflow) ∨
      ((tickState s).scanline = preRender s - 1 ∧ (tickState s).dot = 340 ∧
        (vblankTransitions (advanceTiming s)).sprite0Hit = false ∧
        (vblankTransitions (advanceTiming s)).spriteOverflow = false) := by
  simpa [advanceTiming_spriteFlags s] using (vblankTransitions_work (advanceTiming s)).spriteFlags

/-- `sprite0Hit` after a TICK's pixel: kept, or set on a visible dot with rendering enabled (R244). -/
theorem tickState_sprite0Hit_cases (s : State) :
    (tickState s).sprite0Hit = (vblankTransitions (advanceTiming s)).sprite0Hit ∨
      ((tickState s).sprite0Hit = true ∧ (tickState s).scanline ≤ 239 ∧ 1 ≤ (tickState s).dot ∧
        (tickState s).dot ≤ 256 ∧ renderingEnabled s = true) := by
  have hmask : renderingEnabled (vblankTransitions (advanceTiming s)) = renderingEnabled s := by
    rw [vblankTransitions_frame, advanceTiming_frame]
    rfl
  have hscanline : (vblankTransitions (advanceTiming s)).scanline = (advanceTiming s).scanline := by
    rw [vblankTransitions_frame]
  have hdot : (vblankTransitions (advanceTiming s)).dot = (advanceTiming s).dot := by rw [vblankTransitions_frame]
  simpa [hmask, hscanline, hdot] using composeDot_sprite0Hit (vblankTransitions (advanceTiming s))

/-- `spriteOverflow` after a TICK's rendering step: kept, or set by a buggy evaluation step (R209). -/
theorem tickState_spriteOverflow_cases (s : State) :
    (tickState s).spriteOverflow = (vblankTransitions (advanceTiming s)).spriteOverflow ∨
      ((tickState s).spriteOverflow = true ∧ (tickState s).scanline ≤ 239 ∧ 65 ≤ (tickState s).dot ∧
        (tickState s).dot ≤ 255 ∧ (tickState s).dot % 2 = 1 ∧ renderingEnabled s = true ∧ s.evalFound = 8 ∧
        s.evalN < 64) := by
  have hrender : (tickState s).spriteOverflow = (renderDot (beforeRender s)).spriteOverflow := rfl
  have hbefore : (beforeRender s).spriteOverflow = (vblankTransitions (advanceTiming s)).spriteOverflow := by
    unfold beforeRender
    rw [composeDot_frame]
  simpa [hrender, hbefore, renderingEnabled_beforeRender] using (renderDot_work (beforeRender s)).spriteOverflow

/-- Settles O52: a register transaction or a poll keeps both flags, RESET clears them, and a TICK changes them only as its
VBlank exit, its pixel and its evaluation step do. -/
theorem spriteFlagLifetimes : Obligations.SpriteFlagLifetimes := by
  intro i s
  by_cases htick : i = .tick
  · subst htick
    refine ⟨tickState s, rfl, ?_, ?_, ?_⟩
    · intro hcleared
      rcases vblankTransitions_advanceTiming_spriteFlags s with ⟨hhit, hover⟩ | ⟨hline, hdot, -, -⟩
      · rcases hcleared with ⟨hs, ht⟩ | ⟨hs, ht⟩
        · rcases tickState_sprite0Hit_cases s with h | ⟨h, -⟩ <;> simp_all
        · rcases tickState_spriteOverflow_cases s with h | ⟨h, -⟩ <;> simp_all
      · exact .inr ⟨rfl, hline, hdot⟩
    · intro hs ht
      rcases tickState_sprite0Hit_cases s with h | ⟨-, h⟩
      · rcases vblankTransitions_advanceTiming_spriteFlags s with ⟨hhit, -⟩ | ⟨-, -, hhit, -⟩ <;> simp_all
      · exact ⟨rfl, h⟩
    · intro hs ht
      rcases tickState_spriteOverflow_cases s with h | ⟨-, h⟩
      · rcases vblankTransitions_advanceTiming_spriteFlags s with ⟨-, hover⟩ | ⟨-, -, -, hover⟩ <;> simp_all
      · exact ⟨rfl, h⟩
  by_cases hreset : i = .reset
  · subst hreset
    refine ⟨resetState s, rfl, fun _ => .inl rfl, ?_, ?_⟩
    · intro _ ht
      cases ht
    · intro _ ht
      cases ht
  · obtain ⟨t, ht, hframe⟩ := exec_registerFrame s i htick hreset
    have hhit : t.sprite0Hit = s.sprite0Hit := by rw [hframe]
    have hover : t.spriteOverflow = s.spriteOverflow := by rw [hframe]
    refine ⟨t, ht, ?_⟩
    simp +contextual [hhit, hover]

end Sys2Proof.Machine
end

section
/-! PROOFS. The part of the machine invariant that does not speak of the beam, kept by every sub-step of a TICK. -/

namespace Sys2Proof.Machine

variable {s t : State}

/-- The part of `StateInv` that does not speak of the beam: evaluation, buffers, OAM and the memories. -/
def DataInv (s : State) : Prop :=
  EvaluationInv s ∧ BufferInv s.cur ∧ BufferInv s.next ∧ OamInv s ∧ MemoryInv s

theorem stateInv_iff (s : State) : StateInv s ↔ PositionInv s ∧ StatusInv s ∧ DataInv s := Iff.rfl

/-! One memory replaced by another of its form and size. -/

namespace MemoryInv

theorem with_ntRam (h : MemoryInv s) {m : Memory 8}
    (hm : m.wf = true ∧ cellsBelow (ntSize s.params.mirroring) m = true) : MemoryInv { s with ntRam := m } := by
  obtain ⟨-, hpal, hchr, hoam, hsec, hfb⟩ := h
  exact ⟨hm, hpal, hchr, hoam, hsec, hfb⟩

theorem with_palRam (h : MemoryInv s) {m : Memory 6} (hm : m.wf = true ∧ cellsBelow 32 m = true) :
    MemoryInv { s with palRam := m } := by
  obtain ⟨hnt, -, hchr, hoam, hsec, hfb⟩ := h
  exact ⟨hnt, hm, hchr, hoam, hsec, hfb⟩

theorem with_chrFallback (h : MemoryInv s) {m : Memory 8} (hm : m.wf = true ∧ cellsBelow 8192 m = true) :
    MemoryInv { s with chrFallback := m } := by
  obtain ⟨hnt, hpal, -, hoam, hsec, hfb⟩ := h
  exact ⟨hnt, hpal, hm, hoam, hsec, hfb⟩

theorem with_oam (h : MemoryInv s) {m : Memory 8} (hm : m.wf = true ∧ cellsBelow 256 m = true) :
    MemoryInv { s with oam := m } := by
  obtain ⟨hnt, hpal, hchr, -, hsec, hfb⟩ := h
  exact ⟨hnt, hpal, hchr, hm, hsec, hfb⟩

theorem with_secOam (h : MemoryInv s) {m : Memory 8} (hm : m.wf = true ∧ cellsBelow 32 m = true) :
    MemoryInv { s with secOam := m } := by
  obtain ⟨hnt, hpal, hchr, hoam, -, hfb⟩ := h
  exact ⟨hnt, hpal, hchr, hoam, hm, hfb⟩

theorem with_fb (h : MemoryInv s) {m : List (Nat × Rgb)} (hm : risingCells m = true ∧ cellsBelow 61440 m = true) :
    MemoryInv { s with fb := m } := by
  obtain ⟨hnt, hpal, hchr, hoam, hsec, -⟩ := h
  exact ⟨hnt, hpal, hchr, hoam, hsec, hm⟩

theorem secOam_wf (h : MemoryInv s) : s.secOam.wf = true ∧ cellsBelow 32 s.secOam = true := by
  obtain ⟨-, -, -, -, hsec, -⟩ := h
  exact hsec

end MemoryInv

/-! Primary OAM. -/

/-- R48, R74: a write stores its byte as OAM keeps it, so bits 4..2 stay clear where they must. -/
theorem oamWrite_oamInv (i b : Byte) (h : OamInv s) : OamInv (oamWrite i b s) := by
  intro j hj
  rw [oamRead_oamWrite]
  split
  next heq =>
    subst heq
    simp [oamKeeps, hj, BitVec.and_assoc]
  next => exact h j hj

theorem oamWrite_dataInv (i b : Byte) (h : DataInv s) : DataInv (oamWrite i b s) := by
  obtain ⟨heval, hcur, hnext, hoam, hmem⟩ := h
  have ⟨_, _, _, hbytes, _⟩ := hmem
  exact ⟨heval, hcur, hnext, oamWrite_oamInv i b hoam, hmem.with_oam (oamWrite_wf s i b hbytes)⟩

theorem copyOamBytes_dataInv (b : Byte) (l : List Nat) (h : DataInv s) :
    DataInv (l.foldl (fun s k => copyOamByte b k s) s) := by
  induction l generalizing s with
  | nil => exact h
  | cons k rest ih => exact ih (oamWrite_dataInv _ _ h)

theorem oamAddressDot_dataInv (h : DataInv s) : DataInv (oamAddressDot s) := by
  have hcheck : DataInv (oamCorruptionCheck s) := by
    unfold oamCorruptionCheck
    split
    · exact copyOamBytes_dataInv _ _ h
    · exact h
  unfold oamAddressDot
  dsimp only
  split_ifs
  · exact hcheck
  · exact hcheck
  · exact h
  · exact h

/-! Evaluation. -/

/-- The copy of an entry keeps secondary OAM in form and size (R205). -/
theorem copySprite_secOam_wf (n f : Nat) (h : s.secOam.wf = true ∧ cellsBelow 32 s.secOam = true) :
    (copySprite n f s).secOam.wf = true ∧ cellsBelow 32 (copySprite n f s).secOam = true :=
  secWrite_wf _ _ _ (secWrite_wf _ _ _ (secWrite_wf _ _ _ (secWrite_wf _ _ _ h)))

theorem normalStep_evaluationInv (h : EvaluationInv s) (hn : s.evalN < 64) (hf : s.evalFound < 8) :
    EvaluationInv (normalStep s) := by
  obtain ⟨-, -, hle, hm, hzero⟩ := h
  by_cases hrange : entryInRange s = true
  · simp only [EvaluationInv, normalStep, hrange, if_true]
    exact ⟨by omega, by omega, by omega, fun _ => hm hf, fun _ => by omega⟩
  · simp only [EvaluationInv, normalStep, hrange, Bool.false_and, Bool.or_false]
    exact ⟨by omega, by simpa using hf.le, by simp; omega, fun _ => hm hf, by simpa using hzero⟩

theorem normalStep_secOam_wf (h : s.secOam.wf = true ∧ cellsBelow 32 s.secOam = true) :
    (normalStep s).secOam.wf = true ∧ cellsBelow 32 (normalStep s).secOam = true := by
  simp only [normalStep]
  split
  · exact copySprite_secOam_wf _ _ h
  · exact h

theorem buggyStep_evaluationInv (h : EvaluationInv s) (hn : s.evalN < 64) (hf : s.evalFound = 8) :
    EvaluationInv (buggyStep s) := by
  obtain ⟨-, hfound, hle, -, hzero⟩ := h
  exact ⟨hn, hfound, hle.trans (Nat.le_succ _), fun hlt => absurd hlt (by simp [buggyStep, hf]), hzero⟩

/-- R206, R210: the head handed to the next buffer holds at most 8 sprites, and sprite 0 only when one was found. -/
theorem finalizeEvaluation_bufferInv (h : EvaluationInv s) : BufferInv (finalizeEvaluation s).next := by
  obtain ⟨-, hfound, -, -, hzero⟩ := h
  refine ⟨hfound, ?_⟩
  by_cases hmark : s.evalSprite0 = true
  · exact .inr ⟨by simp [finalizeEvaluation, hmark], hzero hmark⟩
  · exact .inl (by simp [finalizeEvaluation, hmark])

theorem EvaluationWork.dataInv (h : EvaluationWork s t) (hs : DataInv s) : DataInv t := by
  obtain ⟨heval, hcur, hnext, hoam, hmem⟩ := hs
  cases h with
  | start => exact ⟨by simp [EvaluationInv, resetEvaluation], hcur, hnext, hoam, hmem⟩
  | clear => exact ⟨heval, hcur, hnext, hoam, hmem.with_secOam (secWrite_wf s ((s.dot - 1) / 2) 0xFF#8 hmem.secOam_wf)⟩
  | normal hlo hhi hodd hn hf =>
    exact ⟨normalStep_evaluationInv heval hn hf, hcur, hnext, hoam,
      hmem.with_secOam (normalStep_secOam_wf hmem.secOam_wf)⟩
  | buggy hlo hhi hodd hn hf => exact ⟨buggyStep_evaluationInv heval hn hf, hcur, hnext, hoam, hmem⟩
  | finish => exact ⟨heval, hcur, finalizeEvaluation_bufferInv heval, hoam, hmem⟩
  | idle => exact ⟨heval, hcur, hnext, hoam, hmem⟩

theorem SpriteBufferWork.dataInv (h : SpriteBufferWork s t) (hs : DataInv s) : DataInv t := by
  cases h with
  | fetchLow =>
    rw [fetchSpriteLow, memRead_eq]
    exact hs
  | fetchHigh =>
    rw [fetchSpriteHigh, memRead_eq]
    exact hs
  | dummyRead =>
    rw [dummyNametableRead_eq]
    exact hs
  | swap =>
    obtain ⟨heval, hcur, hnext, hoam, hmem⟩ := hs
    exact ⟨heval, hnext, hcur, hoam, hmem⟩
  | load | idle => exact hs

/-! The rendering step and the pixel. -/

theorem beforeEvaluation_dataInv (h : DataInv s) : DataInv (beforeEvaluation s) := by
  have hbackground : DataInv (backgroundDot s) := by
    rw [backgroundDot_frame]
    exact h
  exact oamAddressDot_dataInv hbackground

theorem RenderWork.dataInv (h : RenderWork s t) (hs : DataInv s) : DataInv t := by
  cases h with
  | off => exact hs
  | preRenderLine => exact beforeEvaluation_dataInv hs
  | visibleLine e _ _ _ heval hbuffer => exact hbuffer.dataInv (heval.dataInv (beforeEvaluation_dataInv hs))

/-- R251: the pixel of a visible dot lies in the picture, so the frame buffer keeps its size. -/
theorem composeDot_dataInv (h : DataInv s) : DataInv (composeDot s) := by
  obtain ⟨heval, hcur, hnext, hoam, hmem⟩ := h
  have ⟨_, _, _, _, _, hfb⟩ := hmem
  have hkept : (updateSprite0Hit (s.dot - 1) s).fb = s.fb := by
    unfold updateSprite0Hit
    split <;> rfl
  have hdrawn (hvisible : visible s.scanline = true ∧ 1 ≤ s.dot ∧ s.dot ≤ 256) :
      risingCells (composePixel s).fb = true ∧ cellsBelow 61440 (composePixel s).fb = true := by
    obtain ⟨hline, hlo, hhi⟩ := hvisible
    have hline : s.scanline ≤ 239 := of_decide_eq_true hline
    exact setPixel_wf _ _ _ _ (by omega) (by omega) (hkept ▸ hfb)
  have hfb' : risingCells (composeDot s).fb = true ∧ cellsBelow 61440 (composeDot s).fb = true := by
    unfold composeDot
    split
    next hvisible => exact hdrawn hvisible
    next => exact hfb
  rw [composeDot_frame]
  exact ⟨heval, hcur, hnext, hoam, hmem.with_fb hfb'⟩

theorem tickState_dataInv (h : DataInv s) : DataInv (tickState s) := by
  have hbefore : DataInv (vblankTransitions (advanceTiming s)) := by
    rw [vblankTransitions_frame, advanceTiming_frame]
    exact h
  exact (renderDot_work (beforeRender s)).dataInv (composeDot_dataInv hbefore)

end Sys2Proof.Machine
end

section
/-! PROOFS. The beam and the VBlank flags, the register transactions, and the invariant of the machine. -/

namespace Sys2Proof.Machine

variable {s t u : State}

/-! The beam (R151). -/

/-- What the timing advance can be (R151): the skip, a step along the line, the next line, the next frame. -/
inductive TimingWork (s : State) : State → Prop
  | skip (hskip : skipsDot s = true) :
      TimingWork s { s with totalCycles := s.totalCycles + 1#64, dot := 0, scanline := 0, oddFrame := !s.oddFrame }
  | nextDot (hskip : skipsDot s = false) (hdot : s.dot ≠ 340) :
      TimingWork s { s with totalCycles := s.totalCycles + 1#64, dot := s.dot + 1 }
  | nextLine (hskip : skipsDot s = false) (hdot : s.dot = 340) (hline : s.scanline < preRender s) :
      TimingWork s { s with totalCycles := s.totalCycles + 1#64, dot := 0, scanline := s.scanline + 1 }
  | nextFrame (hskip : skipsDot s = false) (hdot : s.dot = 340) (hline : preRender s ≤ s.scanline) :
      TimingWork s { s with totalCycles := s.totalCycles + 1#64, dot := 0, scanline := 0, oddFrame := !s.oddFrame }

theorem advanceTiming_work (s : State) : TimingWork s (advanceTiming s) := by
  unfold advanceTiming
  dsimp only
  split_ifs with hskip hdot hline
  · exact .skip hskip
  · exact .nextFrame (Bool.eq_false_iff.2 hskip) (by omega) (Nat.le_of_lt_succ hline)
  · exact .nextLine (Bool.eq_false_iff.2 hskip) (by omega) (Nat.lt_of_succ_le (Nat.le_of_not_lt hline))
  · exact .nextDot (Bool.eq_false_iff.2 hskip) (by omega)

/-- R151: the skip is taken from dot 339 of the pre-render line only. -/
theorem skipsDot_position (h : skipsDot s = true) : s.scanline = preRender s ∧ s.dot = 339 := by
  simp only [skipsDot, Bool.and_eq_true, beq_iff_eq] at h
  obtain ⟨⟨-, hline⟩, hdot⟩ := h
  exact ⟨hline, hdot⟩

/-- R11: the pre-render line of either standard. -/
theorem preRender_eq (s : State) : preRender s = 261 ∨ preRender s = 311 := by
  unfold preRender
  cases s.params.standard
  · exact .inl rfl
  · exact .inr rfl

namespace TimingWork

/-- Where the beam goes: to the next dot, to the start of the next line, or to the start of the frame from one of the last
two dots of the pre-render line. -/
theorem position (h : TimingWork s t) (hs : PositionInv s) :
    (s.dot < 340 ∧ t.scanline = s.scanline ∧ t.dot = s.dot + 1) ∨
      (s.dot = 340 ∧ s.scanline < preRender s ∧ t.scanline = s.scanline + 1 ∧ t.dot = 0) ∨
      (339 ≤ s.dot ∧ s.scanline = preRender s ∧ t.scanline = 0 ∧ t.dot = 0) := by
  obtain ⟨hline, hdot⟩ := hs
  cases h with
  | skip hskip =>
    obtain ⟨hlast, h339⟩ := skipsDot_position hskip
    exact .inr (.inr ⟨h339.ge, hlast, rfl, rfl⟩)
  | nextDot _ hne => exact .inl ⟨by omega, rfl, rfl⟩
  | nextLine _ h340 hlt => exact .inr (.inl ⟨h340, hlt, rfl, rfl⟩)
  | nextFrame _ h340 hge => exact .inr (.inr ⟨by omega, by omega, rfl, rfl⟩)

theorem preRender_eq (h : TimingWork s t) : preRender t = preRender s := by cases h <;> rfl

theorem statusFlags_eq (h : TimingWork s t) :
    t.inVBlank = s.inVBlank ∧ t.vblank = s.vblank ∧ t.nmiPending = s.nmiPending := by
  cases h <;> exact ⟨rfl, rfl, rfl⟩

theorem positionInv (h : TimingWork s t) (hs : PositionInv s) : PositionInv t := by
  have hmove := h.position hs
  have hstd := h.preRender_eq
  unfold PositionInv at *
  omega

/-- The advance enters and leaves the VBlank window on the entry and the exit dot only (R155, R157). -/
theorem window (h : TimingWork s t) (hs : PositionInv s) :
    (t.scanline = 241 → t.dot = 1 → InVBlankWindow t) ∧
      (t.scanline = preRender t - 1 → t.dot = 340 → ¬ InVBlankWindow t) ∧
      (¬ (t.scanline = 241 ∧ t.dot = 1) → ¬ (t.scanline = preRender t - 1 ∧ t.dot = 340) →
        (InVBlankWindow t ↔ InVBlankWindow s)) := by
  have hmove := h.position hs
  have hstd := h.preRender_eq
  have hlines := Machine.preRender_eq s
  unfold PositionInv at hs
  unfold InVBlankWindow frameOffset
  omega

end TimingWork

/-- R31, R32, R155, R157: an advance and the VBlank transitions of the dot reached keep the flags in step with the beam. -/
theorem VBlankWork.statusInv (hadvance : TimingWork s t) (h : VBlankWork t u) (hpos : PositionInv s)
    (hs : StatusInv s) : StatusInv u := by
  obtain ⟨henter, hleave, hsame⟩ := hadvance.window hpos
  cases h with
  | enter hline hdot =>
    exact ⟨⟨fun _ => henter hline hdot, fun _ => rfl⟩, fun _ => rfl, fun _ => rfl, fun _ => ⟨hline, hdot, rfl⟩⟩
  | exit hline hdot => exact ⟨⟨nofun, fun hwindow => absurd hwindow (hleave hline hdot)⟩, nofun, nofun, nofun⟩
  | none hentry hexit =>
    obtain ⟨hphase, hvblank, hnmi, -⟩ := hs
    obtain ⟨hin, hvb, hpend⟩ := hadvance.statusFlags_eq
    have hphase' : t.inVBlank = true ↔ InVBlankWindow t := hin ▸ hphase.trans (hsame hentry hexit).symm
    refine ⟨hphase', ?_, ?_, nofun⟩
    · simpa only [hin, hvb] using hvblank
    · simpa only [hin, hpend] using hnmi

theorem tickState_stateInv (h : StateInv s) : StateInv (tickState s) := by
  obtain ⟨hpos, hstatus, hdata⟩ := (stateInv_iff s).1 h
  have hstatus' : StatusInv (vblankTransitions (advanceTiming s)) :=
    (vblankTransitions_work _).statusInv (advanceTiming_work s) hpos hstatus
  have hpos' : PositionInv (advanceTiming s) := (advanceTiming_work s).positionInv hpos
  refine (stateInv_iff _).2 ⟨?_, ?_, tickState_dataInv hdata⟩
  · rw [advanceTiming_frame] at hpos'
    rw [tickState_eq, renderDot_frame, beforeRender_frame]
    exact hpos'
  · rw [tickState_eq, renderDot_frame, beforeRender, composeDot_frame]
    exact hstatus'

/-! The register transactions and the polls. -/

theorem busPlace_stateInv (a : BusAddr) (h : StateInv s) : StateInv (busPlace a s) := by
  rw [busPlace_eq]
  exact h

theorem memWrite_stateInv (a : BusAddr) (b : Byte) (h : StateInv s) : StateInv (memWrite a b s) := by
  obtain ⟨hpos, hstatus, heval, hcur, hnext, hoam, hmem⟩ := busPlace_stateInv a h
  have ⟨hnt, hpal, hchr, _⟩ := hmem
  unfold memWrite
  dsimp only
  split_ifs with hpattern hnametable
  · have ha : a.toNat < 8192 := Nat.lt_succ_of_le hpattern
    unfold chrWrite
    split
    · exact ⟨hpos, hstatus, heval, hcur, hnext, hoam, hmem⟩
    · exact ⟨hpos, hstatus, heval, hcur, hnext, hoam, hmem.with_chrFallback
        ⟨Memory.wf_write _ _ _ hchr.1, Memory.cellsBelow_write _ _ _ _ hchr.2 ha⟩⟩
  · exact ⟨hpos, hstatus, heval, hcur, hnext, hoam, hmem.with_ntRam (ntWrite_wf _ a b hnt)⟩
  · exact ⟨hpos, hstatus, heval, hcur, hnext, hoam, hmem.with_palRam (palWrite_wf _ (a.setWidth 5) b hpal)⟩

theorem dataIncrement_stateInv (h : StateInv s) : StateInv (dataIncrement s) := by
  rw [dataIncrement_frame]
  exact h

theorem readData_stateInv (h : StateInv s) : StateInv (readData s).2 := by
  rw [readData_frame]
  exact h

theorem storeOamData_stateInv (d : Byte) (h : StateInv s) : StateInv (storeOamData d s) := by
  obtain ⟨hpos, hstatus, hdata⟩ := (stateInv_iff s).1 h
  unfold storeOamData
  split
  · exact h
  · exact ⟨hpos, hstatus, oamWrite_dataInv s.oamAddr d hdata⟩

theorem writeScroll_stateInv (d : Byte) (h : StateInv s) : StateInv (writeScroll d s) := by
  unfold writeScroll
  split <;> exact h

theorem writeAddr_stateInv (d : Byte) (h : StateInv s) : StateInv (writeAddr d s) := by
  unfold writeAddr
  simp only [busPlace_eq]
  split
  · split <;> exact h
  · exact h

/-- R131: STATUS_R clears `vblank` outside the race window, and inside it the entry dot keeps it. -/
theorem statusRead_statusInv (w : Bool) (h : StatusInv s) :
    StatusInv { s with vblank := s.vblank && s.vblankStartDot, w := w } := by
  obtain ⟨hphase, hvblank, hnmi, hstart⟩ := h
  refine ⟨hphase, fun hset => hvblank (Bool.and_eq_true_iff.1 hset).1, hnmi, fun hset => ?_⟩
  obtain ⟨hline, hdot, hvb⟩ := hstart hset
  exact ⟨hline, hdot, Bool.and_eq_true_iff.2 ⟨hvb, hset⟩⟩

theorem pollNmi_statusInv (h : StatusInv s) : StatusInv { s with nmiPending := false } := by
  obtain ⟨hphase, hvblank, -, hstart⟩ := h
  exact ⟨hphase, hvblank, nofun, hstart⟩

/-! Reset. -/

/-- R280: RESET meets the invariant as soon as the two fields it keeps are in form. -/
theorem resetState_stateInv (hchr : s.chrFallback.wf = true ∧ cellsBelow 8192 s.chrFallback = true)
    (hfb : risingCells s.fb = true ∧ cellsBelow 61440 s.fb = true) : StateInv (resetState s) := by
  have hempty : StatusInv (resetState s) := by
    simp [StatusInv, InVBlankWindow, frameOffset, resetState, State.reset]
  have hbuffer : BufferInv SpriteBuffer.zero := ⟨Nat.zero_le _, .inl rfl⟩
  exact ⟨⟨Nat.zero_le _, Nat.zero_le _⟩, hempty, ⟨Nat.zero_le _, Nat.zero_le _, le_rfl, fun _ => rfl, nofun⟩, hbuffer, hbuffer,
    fun i _ => BitVec.zero_and, ⟨rfl, rfl⟩, ⟨rfl, rfl⟩, hchr, ⟨rfl, rfl⟩, ⟨rfl, rfl⟩, hfb⟩

/-- Settles O55: power-on is RESET with both kept fields empty, and at `(0, 0)` the beam has passed no pixel. -/
theorem resetMeetsInvariant : Obligations.ResetMeetsInvariant := by
  constructor
  · exact resetState_stateInv (s := State.reset) ⟨rfl, rfl⟩ ⟨rfl, rfl⟩
  · rintro x y - - (habove | ⟨-, hleft⟩)
    · exact absurd habove (Nat.not_lt_zero y)
    · exact absurd hleft (Nat.not_lt_zero x)

/-! Every transaction. -/

theorem exec_stateInv (i : Instr) (h : StateInv s) : ∃ t, exec i s = .next t ∧ StateInv t := by
  obtain ⟨hpos, hstatus, hdata⟩ := (stateInv_iff s).1 h
  cases i with
  | oamDataW d => exact ⟨_, rfl, storeOamData_stateInv d h⟩
  | scrollW d => exact ⟨_, rfl, writeScroll_stateInv d h⟩
  | addrW d => exact ⟨_, rfl, writeAddr_stateInv d h⟩
  | dataW d => exact ⟨_, rfl, dataIncrement_stateInv (memWrite_stateInv _ d h)⟩
  | dataR => exact ⟨_, rfl, dataIncrement_stateInv (readData_stateInv h)⟩
  | statusR => exact ⟨_, rfl, hpos, statusRead_statusInv false hstatus, hdata⟩
  | pollNmi => exact ⟨_, rfl, hpos, pollNmi_statusInv hstatus, hdata⟩
  | tick => exact ⟨_, rfl, tickState_stateInv h⟩
  | reset =>
    obtain ⟨-, -, -, -, -, -, hchr, -, -, hfb⟩ := hdata
    exact ⟨_, rfl, resetState_stateInv hchr hfb⟩
  | ctrlW | maskW | statusW | oamAddrW | ctrlR | maskR | oamAddrR | oamDataR | scrollR | addrR | pollFrame =>
    exact ⟨_, rfl, h⟩

/-- Settles O56: a step that answers a next state idles or applies one transaction, and every transaction keeps the
invariant, which does not speak of the issued words. -/
theorem stepKeepsInvariant : Obligations.StepKeepsInvariant := by
  intro s t hs hstep
  match hissued : s.issued with
  | [] =>
    rw [step_of_issued_nil hissued] at hstep
    cases hstep
    exact hs
  | word :: rest =>
    match hword : decode word with
    | .ok i =>
      rw [step_of_decode_ok hissued hword] at hstep
      obtain ⟨u, hu, hinv⟩ := exec_stateInv (s := { s with issued := rest }) i hs
      cases hu.symm.trans hstep
      exact hinv
    | .error why =>
      rw [step_of_decode_error hissued hword] at hstep
      cases hstep

end Sys2Proof.Machine
end

section
/-! PROOFS. Placing an address, and the palette and nametable memories: the index folds as numbers, and what a
read answers after a write. -/

namespace Sys2Proof.Machine

/-- Settles O50: the three cases of the closed form of `busPlace`. -/
theorem busPlaceNotifiesChanges : Obligations.BusPlaceNotifiesChanges := by
  intro a s
  rw [busPlace_eq, busEvents]
  refine ⟨fun hsame => ?_, fun hchanged hmapper => ?_, fun hchanged hmapper => ?_⟩
  · simp [hsame]
  · simp [hmapper]
  · simp [hchanged, hmapper]

/-- R68: the fold takes 16 off the four indices 0x10, 0x14, 0x18 and 0x1C. -/
theorem palIndex_toNat (i : BitVec 5) :
    (palIndex i).toNat = if 16 ≤ i.toNat ∧ i.toNat % 4 = 0 then i.toNat - 16 else i.toNat := by
  revert i
  decide

/-- A palette read fills bits 7..6 with 0, so a byte that goes in and out keeps its low six bits (R68). -/
theorem setWidth_entry (b : Byte) : (b.setWidth 6).setWidth 8 = b &&& 0x3F := by
  apply BitVec.eq_of_toNat_eq
  simp [Nat.and_two_pow_sub_one_eq_mod b.toNat 6]
  omega

theorem palEntry_palWrite (i j : BitVec 5) (b : Byte) (s : State) :
    palEntry i (palWrite j b s) = if palIndex i = palIndex j then b.setWidth 6 else palEntry i s := by
  simp only [palEntry, palWrite, Memory.read_write, BitVec.toNat_inj]

/-- Settles O48: the entry after a write, widened to a byte, and the fold as a number. -/
theorem paletteReadAfterWrite : Obligations.PaletteReadAfterWrite := by
  intro i j b s
  refine ⟨?_, palIndex_toNat i⟩
  rw [palRead, palEntry_palWrite]
  split
  · exact setWidth_entry b
  · rfl

theorem ntIndex_vertical (a : BitVec 12) : ntIndex .vertical a = a.toNat % 0x800 :=
  (BitVec.toNat_and a 0x07FF#12).trans (Nat.and_two_pow_sub_one_eq_mod a.toNat 11)

/-- Bit 11 of the address picks the half and bits 9..0 the cell in it; the two do not overlap (R64). -/
theorem ntIndex_horizontal (a : BitVec 12) :
    ntIndex .horizontal a = 0x400 * (a.toNat / 0x800) + a.toNat % 0x400 := by
  have hhalf : (((a.extractLsb' 11 1).setWidth 12 <<< 10 : BitVec 12)).toNat = (a.toNat / 0x800) <<< 10 := by
    simp [Nat.shiftRight_eq_div_pow, Nat.shiftLeft_eq]
    omega
  have hcell : ((a.extractLsb' 0 10).setWidth 12 : BitVec 12).toNat = a.toNat % 0x400 := by
    simp
    omega
  rw [ntIndex, BitVec.toNat_or, hhalf, hcell, ← Nat.shiftLeft_add_eq_or_of_lt (Nat.mod_lt _ (by decide)),
    Nat.shiftLeft_eq, Nat.mul_comm]

theorem ntIndex_singleScreen (a : BitVec 12) : ntIndex .singleScreen a = a.toNat % 0x400 := by
  simp [ntIndex]

theorem ntRead_ntWrite (b c : BusAddr) (d : Byte) (s : State) :
    ntRead b (ntWrite c d s) =
      if ntIndex s.params.mirroring (b.setWidth 12) = ntIndex s.params.mirroring (c.setWidth 12) then d
      else ntRead b s := by
  simp only [ntRead, ntWrite, Memory.read_write]

theorem ntWrite_ntWrite_same (c : BusAddr) (d : Byte) (s : State) : ntWrite c d (ntWrite c d s) = ntWrite c d s := by
  simp only [ntWrite, Memory.write_write_same]

theorem ntSize_eq (m : Mirroring) : ntSize m = if m = .fourScreen then 4096 else 2048 := by
  cases m <;> rfl

/-- Settles O49: the four folds as numbers, their bound, and the laws of memories at the folded index. -/
theorem nametableMirroring : Obligations.NametableMirroring := by
  intro m a b c d s
  have hread := ntRead_ntWrite b c d s
  rw [BitVec.setWidth_eq_extractLsb' (by decide), BitVec.setWidth_eq_extractLsb' (by decide)] at hread
  exact ⟨ntIndex_vertical a, ntIndex_horizontal a, ntIndex_singleScreen a, rfl, ntSize_eq m ▸ ntIndex_lt m a, hread, rfl,
    ntWrite_ntWrite_same c d s⟩

end Sys2Proof.Machine
end

section
/-! PROOFS. The one bus access a TICK can make: its address by the dot reached, and the calls it records. -/

namespace Sys2Proof.Machine

variable {s t u : State} {access : Option BusAddr}

/-! Work that makes at most one read. -/

/-- Work from `s` to `t` makes the one read of `access`, or none: the address it leaves and the calls it records (R71, R73). -/
def BusWork (access : Option BusAddr) (s t : State) : Prop :=
  t.busAddr = access.getD s.busAddr ∧ t.events = access.elim s.events (readEvents · s)

namespace BusWork

theorem then_quiet (h : BusWork access s t) (hquiet : BusWork none t u) : BusWork access s u :=
  ⟨hquiet.1.trans h.1, hquiet.2.trans h.2⟩

/-- Work after quiet work, where a read would record the same calls as before it. -/
theorem after_quiet (hquiet : BusWork none s t) (hread : ∀ a, readEvents a t = readEvents a s)
    (h : BusWork access t u) : BusWork access s u := by
  obtain ⟨hbus, hevents⟩ := hquiet
  simpa only [BusWork, hbus, hevents, hread, Option.getD_none, Option.elim_none] using h

/-- A read of a pattern address with a mapper is the newest call, made after the address is placed (R71, R73). -/
theorem events_of_pattern (h : BusWork access s t) (hpattern : ∃ a ∈ access, a ≤ 0x1FFF#14)
    (hmapper : s.params.mapperAttached = true) :
    ∃ answer, t.events = .readChr t.busAddr answer :: busEvents t.busAddr s := by
  obtain ⟨a, rfl, hlow⟩ := hpattern
  obtain ⟨hbus, hevents⟩ := h
  exact ⟨busByte a s, by simp [hbus, hevents, readEvents, hlow, hmapper]⟩

/-- Any other work records nothing but the address it places (R73). -/
theorem events_of_no_pattern (h : BusWork access s t)
    (hnone : ¬ (s.params.mapperAttached = true ∧ ∃ a ∈ access, a ≤ 0x1FFF#14)) :
    t.events = busEvents t.busAddr s := by
  obtain ⟨hbus, hevents⟩ := h
  cases access with
  | none => simp [hbus, hevents, busEvents]
  | some a =>
    have hnot : ¬ (a ≤ 0x1FFF#14 ∧ s.params.mapperAttached = true) := fun ⟨hlow, hmapper⟩ =>
      hnone ⟨hmapper, a, rfl, hlow⟩
    simp [hbus, hevents, readEvents, hnot]

end BusWork

/-! The access of each part of the rendering step, by its sub-step. -/

/-- The address of sub-step `k` of a tile group (R174 to R178). -/
def tileFetchAddr (k : Nat) (s : State) : Option BusAddr :=
  match k with
  | 0 => some (nametableAddr s.v)
  | 2 => some (attributeAddr s.v)
  | 4 => some (bgPatternAddr s)
  | 6 => some (highPlane (bgPatternAddr s))
  | _ => none

theorem fetchStep_busWork (k : Nat) (s : State) : BusWork (tileFetchAddr k s) s (fetchStep k s) := by
  unfold fetchStep
  split <;>
    simp [BusWork, tileFetchAddr, fetchNametable, fetchAttribute, fetchPatternLow, fetchPatternHigh,
      loadShiftRegisters, memRead_eq, *]

/-- The address of sub-step `k` of the fetch of sprite slot `i` (R211). -/
def slotFetchAddr (i k : Nat) (s : State) : Option BusAddr :=
  match k with
  | 0 => some (nametableAddr s.v)
  | 2 => some (nametableAddr s.v)
  | 4 => some (spriteRowAddr i s)
  | 6 => some (highPlane (spriteRowAddr i s))
  | _ => none

theorem spriteFetchStep_busWork (i k : Nat) (s : State) : BusWork (slotFetchAddr i k s) s (spriteFetchStep i k s) := by
  unfold spriteFetchStep
  split <;>
    simp [BusWork, slotFetchAddr, dummyNametableRead_eq, fetchSpriteLow, fetchSpriteHigh, loadSlot, memRead_eq, *]

/-- The access of a dot's rendering step (R174, R183, R211). The garbage reads of a sprite slot see `v` after the copies of
their dot. -/
def renderAccess (s : State) : Option BusAddr :=
  if activeLine s = true then
    if inFetchDots s.dot = true then tileFetchAddr ((s.dot - 1) % 8) s
    else if s.dot = 337 ∨ s.dot = 339 then some (nametableAddr s.v)
    else if s.scanline ≤ 239 ∧ 257 ≤ s.dot ∧ s.dot ≤ 320 then
      slotFetchAddr ((s.dot - 257) / 8) ((s.dot - 257) % 8) { s with v := fixedDotsV s }
    else none
  else none

theorem inFetchDots_iff (d : Nat) : inFetchDots d = true ↔ (1 ≤ d ∧ d ≤ 256) ∨ (321 ≤ d ∧ d ≤ 336) := by
  simp [inFetchDots]

theorem bgFixedDots_of_no_read (hdot : ¬ (s.dot = 337 ∨ s.dot = 339)) : bgFixedDots s = { s with v := fixedDotsV s } :=
  if_neg hdot

theorem bgFetchDot_busWork (hdots : inFetchDots s.dot = true) :
    BusWork (tileFetchAddr ((s.dot - 1) % 8) s) s (bgFetchDot s) := by
  rw [bgFetchDot, if_pos hdots]
  exact fetchStep_busWork _ (shiftRegisters s)

theorem backgroundDot_busWork_of_fetch (hdots : inFetchDots s.dot = true) :
    BusWork (tileFetchAddr ((s.dot - 1) % 8) s) s (backgroundDot s) := by
  have hkept : (bgFetchDot s).dot = s.dot := by rw [bgFetchDot_frame]
  have hrange := (inFetchDots_iff _).1 hdots
  rw [backgroundDot, bgFixedDots_of_no_read (by omega)]
  exact (bgFetchDot_busWork hdots).then_quiet ⟨rfl, rfl⟩

theorem backgroundDot_of_not_fetch (hdots : ¬ inFetchDots s.dot = true) : backgroundDot s = bgFixedDots s := by
  rw [backgroundDot, bgFetchDot, if_neg hdots]

/-- Dots 337 and 339 come after the last increment and copy of a line, so their read sees `v` as it was (R183). -/
theorem backgroundDot_busWork_of_dummy (hdot : s.dot = 337 ∨ s.dot = 339) :
    BusWork (some (nametableAddr s.v)) s (backgroundDot s) := by
  have hv : fixedDotsV s = s.v := by
    rw [fixedDotsV, if_neg (by omega), if_neg (by omega), if_neg (by omega)]
  rw [backgroundDot_of_not_fetch (by rw [inFetchDots_iff]; omega), bgFixedDots, if_pos hdot, dummyNametableRead_eq, hv]
  exact ⟨rfl, rfl⟩

theorem evaluationDot_of_late (hdot : 256 < s.dot) : evaluationDot s = s := by
  rw [evaluationDot, if_neg (by omega), if_neg (by omega), if_neg (by omega), if_neg (by omega)]

theorem oamAddressDot_quiet (s : State) : BusWork none s (oamAddressDot s) := by
  rw [oamAddressDot_frame]
  exact ⟨rfl, rfl⟩

theorem evaluationDot_quiet (s : State) : BusWork none s (evaluationDot s) := by
  rw [evaluationDot_frame]
  exact ⟨rfl, rfl⟩

theorem spriteBufferDot_quiet (hdot : ¬ (257 ≤ s.dot ∧ s.dot ≤ 320)) : BusWork none s (spriteBufferDot s) := by
  rw [spriteBufferDot, if_neg hdot]
  split <;> exact ⟨rfl, rfl⟩

/-- Outside the sprite fetches of a visible line the sprite step makes no call (R200). -/
theorem spriteDot_quiet (hdot : ¬ (s.scanline ≤ 239 ∧ 257 ≤ s.dot ∧ s.dot ≤ 320)) : BusWork none s (spriteDot s) := by
  have hoam := oamAddressDot_quiet s
  rw [spriteDot]
  split
  next hvisible =>
    have hline : s.scanline ≤ 239 := by
      rw [oamAddressDot_frame] at hvisible
      exact of_decide_eq_true hvisible
    have hkept : (evaluationDot (oamAddressDot s)).dot = s.dot := by rw [evaluationDot_frame, oamAddressDot_frame]
    exact (hoam.then_quiet (evaluationDot_quiet _)).then_quiet (spriteBufferDot_quiet (by omega))
  next => exact hoam

theorem slotFetchAddr_oamAddressDot (i k : Nat) (s : State) :
    slotFetchAddr i k (oamAddressDot s) = slotFetchAddr i k s := by
  rw [oamAddressDot_frame]
  unfold slotFetchAddr
  split <;> rfl

theorem readEvents_oamAddressDot (a : BusAddr) (s : State) : readEvents a (oamAddressDot s) = readEvents a s := by
  rw [oamAddressDot_frame]
  rfl

/-- On the dots of the sprite fetches of a visible line the sprite step is one sub-step of a slot's fetch (R200). -/
theorem spriteDot_eq_spriteFetchStep (hline : s.scanline ≤ 239) (hlo : 257 ≤ s.dot) (hhi : s.dot ≤ 320) :
    spriteDot s = spriteFetchStep ((s.dot - 257) / 8) ((s.dot - 257) % 8) (oamAddressDot s) := by
  have hdot : (oamAddressDot s).dot = s.dot := by rw [oamAddressDot_frame]
  have hvisible : visible (oamAddressDot s).scanline = true := by
    rw [oamAddressDot_frame]
    exact decide_eq_true hline
  rw [spriteDot, if_pos hvisible, evaluationDot_of_late (by omega), spriteBufferDot, if_pos (by omega),
    spriteFetchDot, hdot]

theorem spriteDot_busWork (hline : s.scanline ≤ 239) (hlo : 257 ≤ s.dot) (hhi : s.dot ≤ 320) :
    BusWork (slotFetchAddr ((s.dot - 257) / 8) ((s.dot - 257) % 8) s) s (spriteDot s) := by
  rw [spriteDot_eq_spriteFetchStep hline hlo hhi, ← slotFetchAddr_oamAddressDot]
  exact .after_quiet (oamAddressDot_quiet s) (readEvents_oamAddressDot · s) (spriteFetchStep_busWork _ _ _)

/-- A dot's rendering step makes its one access, or none. -/
theorem renderDot_busWork (s : State) : BusWork (renderAccess s) s (renderDot s) := by
  have hline : (backgroundDot s).scanline = s.scanline := by rw [backgroundDot_frame]
  have hdot : (backgroundDot s).dot = s.dot := by rw [backgroundDot_frame]
  unfold renderDot renderAccess
  split_ifs with hactive hfetch hdummy hslot
  · have hrange := (inFetchDots_iff _).1 hfetch
    exact (backgroundDot_busWork_of_fetch hfetch).then_quiet (spriteDot_quiet (by omega))
  · exact (backgroundDot_busWork_of_dummy hdummy).then_quiet (spriteDot_quiet (by omega))
  · obtain ⟨hvisible, hlo, hhi⟩ := hslot
    rw [backgroundDot_of_not_fetch hfetch, bgFixedDots_of_no_read hdummy]
    have hwork := spriteDot_busWork (s := { s with v := fixedDotsV s }) hvisible hlo hhi
    exact BusWork.after_quiet ⟨rfl, rfl⟩ (fun _ => rfl) hwork
  · have hquiet : BusWork none (backgroundDot s) (spriteDot (backgroundDot s)) := spriteDot_quiet (by omega)
    have hbackground : BusWork none s (backgroundDot s) := by
      rw [backgroundDot_of_not_fetch hfetch, bgFixedDots_of_no_read hdummy]
      exact ⟨rfl, rfl⟩
    exact hbackground.then_quiet hquiet
  · exact ⟨rfl, rfl⟩

/-! Which accesses are pattern fetches. -/

/-- The pattern tables are the addresses with bit 13 clear (R62). -/
theorem le_0x1FFF_iff (a : BusAddr) : a ≤ 0x1FFF#14 ↔ a[13] = false := by
  rw [BitVec.le_def, ← BitVec.getLsbD_eq_getElem, ← BitVec.msb_eq_getLsbD_last a, BitVec.msb_eq_decide,
    decide_eq_false_iff_not]
  exact Nat.lt_succ_iff.symm.trans Nat.not_le.symm

theorem nametableAddr_high (v : LoopyAddr) : ¬ nametableAddr v ≤ 0x1FFF#14 := by
  simp [le_0x1FFF_iff, nametableAddr]

theorem attributeAddr_high (v : LoopyAddr) : ¬ attributeAddr v ≤ 0x1FFF#14 := by
  simp [le_0x1FFF_iff, attributeAddr]

theorem patternAddr_low {base : BusAddr} (tile : Byte) (row : BitVec 3) (hbase : base ≤ 0x1FFF#14) :
    patternAddr base tile row ≤ 0x1FFF#14 := by
  rw [le_0x1FFF_iff] at hbase ⊢
  simp [patternAddr, hbase]

theorem highPlane_low {a : BusAddr} (h : a ≤ 0x1FFF#14) : highPlane a ≤ 0x1FFF#14 := by
  rw [le_0x1FFF_iff] at h ⊢
  simp [highPlane, h]

theorem bgPatternAddr_low (s : State) : bgPatternAddr s ≤ 0x1FFF#14 :=
  patternAddr_low _ _ (by unfold bgPatternBase; split <;> decide)

theorem spriteTileAddr_low (c tile : Byte) (row : Nat) : spriteTileAddr c tile row ≤ 0x1FFF#14 := by
  unfold spriteTileAddr
  split
  · exact patternAddr_low _ _ (by split <;> decide)
  · exact patternAddr_low _ _ (by unfold spritePatternBase; split <;> decide)

theorem spriteRowAddr_low (i : Nat) (s : State) : spriteRowAddr i s ≤ 0x1FFF#14 := by
  unfold spriteRowAddr
  split <;> exact spriteTileAddr_low _ _ _

theorem tileFetchAddr_pattern_iff (k : Nat) (s : State) :
    (∃ a ∈ tileFetchAddr k s, a ≤ 0x1FFF#14) ↔ k = 4 ∨ k = 6 := by
  unfold tileFetchAddr
  split <;>
    simp [nametableAddr_high, attributeAddr_high, bgPatternAddr_low, highPlane_low]
  next _ _ hlow hhigh => exact ⟨hlow, hhigh⟩

theorem slotFetchAddr_pattern_iff (i k : Nat) (s : State) :
    (∃ a ∈ slotFetchAddr i k s, a ≤ 0x1FFF#14) ↔ k = 4 ∨ k = 6 := by
  unfold slotFetchAddr
  split <;> simp [nametableAddr_high, spriteRowAddr_low, highPlane_low]
  next _ _ hlow hhigh => exact ⟨hlow, hhigh⟩

/-- The dots of the pattern fetches (R174, R211). -/
theorem renderAccess_pattern_iff (s : State) :
    (∃ a ∈ renderAccess s, a ≤ 0x1FFF#14) ↔ activeLine s = true ∧
      ((((1 ≤ s.dot ∧ s.dot ≤ 256) ∨ (321 ≤ s.dot ∧ s.dot ≤ 336)) ∧ ((s.dot - 1) % 8 = 4 ∨ (s.dot - 1) % 8 = 6)) ∨
        (s.scanline ≤ 239 ∧ 257 ≤ s.dot ∧ s.dot ≤ 320 ∧ ((s.dot - 257) % 8 = 4 ∨ (s.dot - 257) % 8 = 6))) := by
  unfold renderAccess
  split_ifs with hactive hfetch hdummy hslot
  · rw [tileFetchAddr_pattern_iff]
    have hrange := (inFetchDots_iff _).1 hfetch
    simp only [hactive, true_and]
    omega
  · simp only [Option.mem_some_iff, exists_eq_left', nametableAddr_high, false_iff]
    omega
  · rw [slotFetchAddr_pattern_iff]
    simp only [hactive, true_and]
    omega
  · rw [inFetchDots_iff] at hfetch
    simp only [Option.not_mem_none, false_and, exists_false, false_iff]
    omega
  · simp [hactive]


/-! The address a TICK leaves, by the dot reached. -/

@[simp] theorem beforeRender_busAddr (s : State) : (beforeRender s).busAddr = s.busAddr := by rw [beforeRender_frame]
@[simp] theorem beforeRender_v (s : State) : (beforeRender s).v = s.v := by rw [beforeRender_frame]
@[simp] theorem beforeRender_params (s : State) : (beforeRender s).params = s.params := by rw [beforeRender_frame]

theorem tickState_busWork (s : State) : BusWork (renderAccess (beforeRender s)) (beforeRender s) (tickState s) :=
  renderDot_busWork _

theorem tickState_busAddr (s : State) :
    (tickState s).busAddr = (renderAccess (beforeRender s)).getD s.busAddr := by
  rw [(tickState_busWork s).1, beforeRender_busAddr]

theorem tickState_busAddr_of_inactive (hactive : activeLine (tickState s) = false) :
    (tickState s).busAddr = s.busAddr := by
  rw [activeLine_tickState] at hactive
  simp [tickState_busAddr, renderAccess, hactive]

theorem tileFetchAddr_beforeRender (k : Nat) (s : State) : tileFetchAddr k (beforeRender s) = tileFetchAddr k s := by
  rw [beforeRender_frame]
  unfold tileFetchAddr
  split <;> rfl

theorem tickState_busAddr_of_fetch (hactive : activeLine (tickState s) = true)
    (hdots : inFetchDots (tickState s).dot = true) :
    (tickState s).busAddr = (tileFetchAddr (((tickState s).dot - 1) % 8) s).getD s.busAddr := by
  rw [activeLine_tickState] at hactive
  rw [tickState_dot, ← beforeRender_dot] at hdots ⊢
  rw [tickState_busAddr, renderAccess, if_pos hactive, if_pos hdots, tileFetchAddr_beforeRender]

theorem tickState_busAddr_of_dummy (hactive : activeLine (tickState s) = true)
    (hdot : (tickState s).dot = 337 ∨ (tickState s).dot = 339) : (tickState s).busAddr = nametableAddr s.v := by
  rw [activeLine_tickState] at hactive
  rw [tickState_dot, ← beforeRender_dot] at hdot
  rw [tickState_busAddr, renderAccess, if_pos hactive, if_neg (by rw [inFetchDots_iff]; omega), if_pos hdot,
    beforeRender_v, Option.getD_some]

/-- The advance changes the scanline only when it comes to dot 0 (R151). -/
theorem TimingWork.scanline_eq (h : TimingWork s t) (hdot : t.dot ≠ 0) : t.scanline = s.scanline := by
  cases h with
  | nextDot => rfl
  | skip | nextLine | nextFrame => exact absurd rfl hdot

/-- The scroll address of a sprite-fetch dot is the one its copies leave (R186, R187). -/
theorem tickState_v_of_slot (hactive : activeLine (tickState s) = true) (hlo : 257 ≤ (tickState s).dot)
    (hhi : (tickState s).dot ≤ 320) : (tickState s).v = fixedDotsV (beforeRender s) := by
  rw [activeLine_tickState] at hactive
  rw [tickState_dot, ← beforeRender_dot] at hlo hhi
  have hbackground : backgroundDot (beforeRender s) = { beforeRender s with v := fixedDotsV (beforeRender s) } := by
    rw [backgroundDot_of_not_fetch (by rw [inFetchDots_iff]; omega), bgFixedDots_of_no_read (by omega)]
  change (renderDot (beforeRender s)).v = _
  rw [renderDot, if_pos hactive, spriteDot_frame, hbackground]

/-- The sprite fetches of a dot see the evaluated sprites, the scanline and CTRL as the TICK found them. -/
theorem slotFetchAddr_beforeRender (i k : Nat) (v : LoopyAddr) (hdot : (tickState s).dot ≠ 0) :
    slotFetchAddr i k { beforeRender s with v := v } = slotFetchAddr i k { s with v := v } := by
  have hline := (advanceTiming_work s).scanline_eq (tickState_dot s ▸ hdot)
  rw [beforeRender_frame, hline]
  unfold slotFetchAddr
  split <;> rfl

theorem tickState_busAddr_of_slot (i : Nat) (hactive : activeLine (tickState s) = true)
    (hline : (tickState s).scanline ≤ 239) (hdot : 257 ≤ (tickState s).dot ∧ (tickState s).dot ≤ 320)
    (hslot : ((tickState s).dot - 257) / 8 = i) :
    (tickState s).busAddr =
      (slotFetchAddr i (((tickState s).dot - 257) % 8) { s with v := (tickState s).v }).getD s.busAddr := by
  obtain ⟨hlo, hhi⟩ := hdot
  rw [← slotFetchAddr_beforeRender _ _ _ (by omega), tickState_v_of_slot hactive hlo hhi]
  rw [activeLine_tickState] at hactive
  simp only [tickState_dot, ← beforeRender_dot, tickState_scanline, ← beforeRender_scanline] at *
  rw [tickState_busAddr, renderAccess, if_pos hactive, if_neg (by rw [inFetchDots_iff]; omega), if_neg (by omega),
    if_pos ⟨hline, hlo, hhi⟩, hslot]

theorem tickState_busAddr_of_quiet
    (hdot : (tickState s).dot = 0 ∨ (239 < (tickState s).scanline ∧ 257 ≤ (tickState s).dot ∧ (tickState s).dot ≤ 320) ∨
      (tickState s).dot = 338 ∨ 340 ≤ (tickState s).dot) : (tickState s).busAddr = s.busAddr := by
  simp only [tickState_dot, ← beforeRender_dot, tickState_scanline, ← beforeRender_scanline] at hdot
  rw [tickState_busAddr, renderAccess, if_neg (c := inFetchDots _ = true) (by rw [inFetchDots_iff]; omega),
    if_neg (c := _ ∨ _) (by omega), if_neg (c := _ ∧ _) (by omega), ite_self, Option.getD_none]

theorem tileFetchAddr_of_odd {k : Nat} (hk : k % 2 = 1) (s : State) : tileFetchAddr k s = none := by
  unfold tileFetchAddr
  split
  iterate 4 contradiction
  rfl

theorem slotFetchAddr_of_odd {k : Nat} (hk : k % 2 = 1) (i : Nat) (s : State) : slotFetchAddr i k s = none := by
  unfold slotFetchAddr
  split
  iterate 4 contradiction
  rfl

/-! The calls of a TICK. -/

theorem pixelAt_setPixel (x y : Nat) (c : Rgb) (s : State) : pixelAt x y (setPixel x y c s) = some c :=
  (cellAt_putCell _ _ _ _).trans (if_pos rfl)

theorem updateSprite0Hit_events (xp : Nat) (s : State) : (updateSprite0Hit xp s).events = s.events := by
  unfold updateSprite0Hit
  split <;> rfl

/-- The compositor's one call is the pixel of a visible dot (R251, R252). -/
theorem composeDot_call (s : State) (hdot : s.scanline ≤ 239 ∧ 1 ≤ s.dot ∧ s.dot ≤ 256) :
    ∃ c, pixelAt (s.dot - 1) s.scanline (composeDot s) = some c ∧
      (composeDot s).events = .setPixel (s.dot - 1) s.scanline c :: s.events := by
  rw [composeDot, if_pos (by simpa [visible] using hdot), composePixel]
  exact ⟨_, pixelAt_setPixel _ _ _ _, by rw [setPixel, record_events, updateSprite0Hit_events]⟩

theorem composeDot_of_no_pixel (s : State) (hdot : ¬ (s.scanline ≤ 239 ∧ 1 ≤ s.dot ∧ s.dot ≤ 256)) :
    composeDot s = s := by
  rw [composeDot, if_neg (by simpa [visible] using hdot)]

theorem vblankTransitions_advanceTiming_kept (s : State) :
    (vblankTransitions (advanceTiming s)).scanline = (tickState s).scanline ∧
      (vblankTransitions (advanceTiming s)).dot = (tickState s).dot ∧
      (vblankTransitions (advanceTiming s)).events = s.events := by
  rw [tickState_scanline, tickState_dot, vblankTransitions_frame]
  exact ⟨rfl, rfl, by rw [advanceTiming_frame]⟩

theorem beforeRender_call (s : State)
    (hdot : (tickState s).scanline ≤ 239 ∧ 1 ≤ (tickState s).dot ∧ (tickState s).dot ≤ 256) :
    ∃ c, pixelAt ((tickState s).dot - 1) (tickState s).scanline (tickState s) = some c ∧
      (beforeRender s).events = .setPixel ((tickState s).dot - 1) (tickState s).scanline c :: s.events := by
  obtain ⟨hline, hd, hevents⟩ := vblankTransitions_advanceTiming_kept s
  rw [pixelAt, tickState_fb, ← hline, ← hd, ← hevents]
  rw [← hline, ← hd] at hdot
  exact composeDot_call _ hdot

theorem beforeRender_events_of_no_pixel (s : State)
    (hdot : ¬ ((tickState s).scanline ≤ 239 ∧ 1 ≤ (tickState s).dot ∧ (tickState s).dot ≤ 256)) :
    (beforeRender s).events = s.events := by
  obtain ⟨hline, hd, hevents⟩ := vblankTransitions_advanceTiming_kept s
  rw [← hline, ← hd] at hdot
  rw [beforeRender, composeDot_of_no_pixel _ hdot, hevents]

/-- The access of a TICK is a pattern read that the mapper answers (R70). -/
def readsMapper (s : State) : Bool :=
  decide ((beforeRender s).params.mapperAttached = true ∧ ∃ a ∈ renderAccess (beforeRender s), a ≤ 0x1FFF#14)

theorem readsMapper_iff (s : State) :
    readsMapper s = true ↔ s.params.mapperAttached = true ∧ activeLine (tickState s) = true ∧
      ((((1 ≤ (tickState s).dot ∧ (tickState s).dot ≤ 256) ∨ (321 ≤ (tickState s).dot ∧ (tickState s).dot ≤ 336)) ∧
          (((tickState s).dot - 1) % 8 = 4 ∨ ((tickState s).dot - 1) % 8 = 6)) ∨
        ((tickState s).scanline ≤ 239 ∧ 257 ≤ (tickState s).dot ∧ (tickState s).dot ≤ 320 ∧
          (((tickState s).dot - 257) % 8 = 4 ∨ ((tickState s).dot - 257) % 8 = 6))) := by
  rw [readsMapper, decide_eq_true_iff, renderAccess_pattern_iff, beforeRender_params, activeLine_tickState, tickState_dot,
    tickState_scanline, beforeRender_dot, beforeRender_scanline]

/-- Settles O36: the rendering step's one access gives the address and its calls, after the compositor's. -/
theorem tickBusAddress : Obligations.TickBusAddress := by
  intro s i pattern hpattern
  refine ⟨tickState s, readsMapper s, (beforeRender s).events, busEvents (tickState s).busAddr (beforeRender s),
    rfl, tickState_busAddr_of_inactive, fun hactive => ⟨fun hdots => ?_, tickState_busAddr_of_dummy hactive,
      fun ⟨hline, hlo, hhi⟩ => ?_, tickState_busAddr_of_quiet⟩, readsMapper_iff s, beforeRender_call s,
    beforeRender_events_of_no_pixel s, ?_, ?_, ?_⟩
  · have haddr := tickState_busAddr_of_fetch hactive ((inFetchDots_iff _).2 hdots)
    subst hpattern
    exact ⟨fun hk => by rw [haddr, hk]; rfl, fun hk => by rw [haddr, hk]; rfl, fun hk => by rw [haddr, hk]; rfl,
      fun hk => by rw [haddr, hk]; rfl, fun hodd => by rw [haddr, tileFetchAddr_of_odd (by omega)]; rfl⟩
  · have haddr := tickState_busAddr_of_slot i hactive hline (by omega) (by omega)
    exact ⟨by rintro (hk | hk) <;> rw [haddr, hk] <;> rfl, fun hk => by rw [haddr, hk]; rfl,
      fun hk => by rw [haddr, hk]; rfl, fun hodd => by rw [haddr, slotFetchAddr_of_odd (by omega)]; rfl⟩
  · rw [busEvents, beforeRender_busAddr, beforeRender_params]
  · intro hnone
    exact (tickState_busWork s).events_of_no_pattern (of_decide_eq_false hnone)
  · intro hread
    obtain ⟨hmapper, hpatternRead⟩ := of_decide_eq_true hread
    exact (tickState_busWork s).events_of_pattern hpatternRead hmapper

end Sys2Proof.Machine
end

section
/-! PROOFS. The operation word by its fields, the decoder as the table of R105 and R106, and the encoding statements they
settle. -/

namespace Sys2Proof

/-! The fields of a word as numbers (R90). -/

section
variable (w : OpWord)

theorem opClass_toNat : (opClass w).toNat = w.toNat / 4096 := by
  rw [opClass, BitVec.extractLsb'_toNat, Nat.shiftRight_eq_div_pow]
  omega

theorem opReserved_iff : opReserved w = true ↔ w.toNat / 2048 % 2 = 1 := by
  simp [opReserved, BitVec.getLsbD, Nat.testBit_eq_decide_div_mod_eq]

theorem opOffset_toNat : (opOffset w).toNat = w.toNat / 256 % 8 := by
  rw [opOffset, BitVec.extractLsb'_toNat, Nat.shiftRight_eq_div_pow]

theorem opData_toNat : (opData w).toNat = w.toNat % 256 := rfl

theorem operandBits_toNat : (w.extractLsb' 0 12).toNat = w.toNat % 4096 := rfl

end

/-- Fields set side by side are the digits of the number. -/
theorem toNat_append_eq_add {m n : Nat} (a : BitVec m) (b : BitVec n) : (a ++ b).toNat = a.toNat * 2 ^ n + b.toNat := by
  rw [BitVec.toNat_append, ← Nat.shiftLeft_add_eq_or_of_lt b.isLt, Nat.shiftLeft_eq]

section
variable (cls : BitVec 4) (r : BitVec 3) (d : Byte)

theorem opWord_toNat : (opWord cls r d).toNat = cls.toNat * 4096 + r.toNat * 256 + d.toNat := by
  simp only [opWord, toNat_append_eq_add, BitVec.toNat_ofNat]
  omega

@[simp] theorem opReserved_opWord : opReserved (opWord cls r d) = false := by
  rw [Bool.eq_false_iff, ne_eq, opReserved_iff, opWord_toNat]
  omega

@[simp] theorem opClass_opWord : opClass (opWord cls r d) = cls := by
  apply BitVec.eq_of_toNat_eq
  rw [opClass_toNat, opWord_toNat]
  omega

@[simp] theorem opOffset_opWord : opOffset (opWord cls r d) = r := by
  apply BitVec.eq_of_toNat_eq
  rw [opOffset_toNat, opWord_toNat]
  omega

@[simp] theorem opData_opWord : opData (opWord cls r d) = d := by
  apply BitVec.eq_of_toNat_eq
  rw [opData_toNat, opWord_toNat]
  omega

end

/-- A word without the reserved bit is its three fields. -/
theorem opWord_fields {w : OpWord} (hz : opReserved w = false) : opWord (opClass w) (opOffset w) (opData w) = w := by
  apply BitVec.eq_of_toNat_eq
  rw [Bool.eq_false_iff, ne_eq, opReserved_iff] at hz
  rw [opWord_toNat, opClass_toNat, opOffset_toNat, opData_toNat]
  omega

/-- A word of class 2 to 5 without operand bits is its class alone (R93). -/
theorem opWord_of_operandBits_zero {w : OpWord} (hbits : w.extractLsb' 0 12 = 0) : opWord (opClass w) 0 0 = w := by
  apply BitVec.eq_of_toNat_eq
  have hnum : w.toNat % 4096 = 0 := congrArg BitVec.toNat hbits
  simp only [opWord_toNat, opClass_toNat, BitVec.ofNat_eq_ofNat, BitVec.toNat_ofNat]
  omega

/-! Registers and their offsets (R92). -/

@[simp] theorem Reg.ofOffset_offset (r : Reg) : Reg.ofOffset r.offset = r := by cases r <;> rfl

@[simp] theorem Reg.offset_ofOffset (k : BitVec 3) : (Reg.ofOffset k).offset = k := by
  revert k
  decide

theorem encode_writeInstr (r : Reg) (d : Byte) : encode (writeInstr r d) = opWord 0#4 r.offset d := by cases r <;> rfl

theorem encode_readInstr (r : Reg) : encode (readInstr r) = opWord 1#4 r.offset 0 := by cases r <;> rfl

/-! The decoder on the word of an instruction. -/

theorem decode_encode_writeInstr (r : Reg) (d : Byte) : decode (encode (writeInstr r d)) = .ok (writeInstr r d) := by
  simp [encode_writeInstr, decode]

theorem decode_encode_readInstr (r : Reg) : decode (encode (readInstr r)) = .ok (readInstr r) := by
  simp [encode_readInstr, decode]

/-- Settles O1: every instruction is the write or the read of a register, or one of the four bare words. -/
theorem decodeEncodeRoundTrip : Obligations.DecodeEncodeRoundTrip := by
  intro i
  cases i with
  | ctrlW d => exact decode_encode_writeInstr .ctrl d
  | maskW d => exact decode_encode_writeInstr .mask d
  | statusW d => exact decode_encode_writeInstr .status d
  | oamAddrW d => exact decode_encode_writeInstr .oamAddr d
  | oamDataW d => exact decode_encode_writeInstr .oamData d
  | scrollW d => exact decode_encode_writeInstr .scroll d
  | addrW d => exact decode_encode_writeInstr .addr d
  | dataW d => exact decode_encode_writeInstr .data d
  | ctrlR => exact decode_encode_readInstr .ctrl
  | maskR => exact decode_encode_readInstr .mask
  | statusR => exact decode_encode_readInstr .status
  | oamAddrR => exact decode_encode_readInstr .oamAddr
  | oamDataR => exact decode_encode_readInstr .oamData
  | scrollR => exact decode_encode_readInstr .scroll
  | addrR => exact decode_encode_readInstr .addr
  | dataR => exact decode_encode_readInstr .data
  | tick | reset | pollNmi | pollFrame => rfl

/-! The decoder inverted: the rows of R105 and the grounds of R106. -/

/-- What the decoder can answer to a word: the transaction of a row, with the row's word, or a ground of refusal that the
word meets. -/
inductive Decoding : OpWord → Except Reject Instr → Prop
  | write (r : Reg) (d : Byte) : Decoding (opWord 0#4 r.offset d) (.ok (writeInstr r d))
  | read (r : Reg) : Decoding (opWord 1#4 r.offset 0) (.ok (readInstr r))
  | tick : Decoding (opWord 2#4 0 0) (.ok .tick)
  | reset : Decoding (opWord 3#4 0 0) (.ok .reset)
  | pollNmi : Decoding (opWord 4#4 0 0) (.ok .pollNmi)
  | pollFrame : Decoding (opWord 5#4 0 0) (.ok .pollFrame)
  | reservedBit {w : OpWord} (hz : opReserved w = true) : Decoding w (.error .reservedBit)
  | reservedClass {w : OpWord} (hcls : 5 < (opClass w).toNat) : Decoding w (.error .reservedClass)
  | readWithData {w : OpWord} (hcls : (opClass w).toNat = 1) (hdata : opData w ≠ 0) : Decoding w (.error .readWithData)
  | operandBits {w : OpWord} (hcls : 2 ≤ (opClass w).toNat) (hbits : w.extractLsb' 0 12 ≠ 0) :
      Decoding w (.error .operandBits)

theorem opClass_eq_ofNat {w : OpWord} {k : Nat} (hcls : (opClass w).toNat = k) : opClass w = BitVec.ofNat 4 k := by
  rw [← hcls, BitVec.ofNat_toNat, BitVec.setWidth_eq]

/-- A word of class 2 to 5 is a bare word or has operand bits. -/
theorem Decoding.of_bareWord {w : OpWord} {i : Instr} {k : Nat} (hcls : (opClass w).toNat = k) (hk : 2 ≤ k)
    (hbare : Decoding (opWord (BitVec.ofNat 4 k) 0 0) (.ok i)) : Decoding w (bareWord w i) := by
  unfold bareWord
  split_ifs with hbits
  · rwa [← opClass_eq_ofNat hcls, opWord_of_operandBits_zero hbits] at hbare
  · exact .operandBits (hcls ▸ hk) hbits

theorem decode_decoding (w : OpWord) : Decoding w (decode w) := by
  unfold decode
  split
  · exact .reservedBit ‹_›
  next hz =>
  have hfields := opWord_fields (Bool.eq_false_iff.2 hz)
  split
  next hcls =>
    have hword := Decoding.write (Reg.ofOffset (opOffset w)) (opData w)
    rwa [Reg.offset_ofOffset, ← opClass_eq_ofNat hcls, hfields] at hword
  next hcls =>
    split
    next hdata =>
      have hword := Decoding.read (Reg.ofOffset (opOffset w))
      rwa [Reg.offset_ofOffset, ← opClass_eq_ofNat hcls, ← hdata, hfields] at hword
    next hdata => exact .readWithData hcls hdata
  next hcls => exact .of_bareWord hcls (by decide) .tick
  next hcls => exact .of_bareWord hcls (by decide) .reset
  next hcls => exact .of_bareWord hcls (by decide) .pollNmi
  next hcls => exact .of_bareWord hcls (by decide) .pollFrame
  next h0 h1 h2 h3 h4 h5 =>
    simp only [imp_false] at h0 h1 h2 h3 h4 h5
    exact .reservedClass (by omega)

/-- Settles O2: the words of the rows of R105 are the encoder's. -/
theorem encodeDecodeRoundTrip : Obligations.EncodeDecodeRoundTrip := by
  intro word i hi
  have hword := decode_decoding word
  rw [hi] at hword
  cases hword with
  | write r d => exact encode_writeInstr r d
  | read r => exact encode_readInstr r
  | tick | reset | pollNmi | pollFrame => rfl

/-- Settles O3: the decoder evaluated on each word. -/
theorem decodeSampleWords : Obligations.DecodeSampleWords := by
  unfold Obligations.DecodeSampleWords
  decide

end Sys2Proof

namespace Sys2Proof.Machine

/-- R106's conditions on the fields of the word. -/
theorem legalWord_iff (w : OpWord) :
    legalWord w = true ↔ (opClass w).toNat ≤ 5 ∧ opReserved w = false ∧ ((opClass w).toNat = 1 → opData w = 0) ∧
      (2 ≤ (opClass w).toNat → w.extractLsb' 0 12 = 0) := by
  rw [Bool.eq_false_iff, ne_eq, opReserved_iff, ← BitVec.toNat_inj (x := opData w), ← BitVec.toNat_inj, opClass_toNat,
    opData_toNat, operandBits_toNat]
  simp only [legalWord, Bool.and_eq_true, Bool.or_eq_true, decide_eq_true_eq, bne_iff_ne, beq_iff_eq,
    BitVec.ofNat_eq_ofNat, BitVec.toNat_ofNat]
  omega

/-- The legal words are those that spell a transaction (R105, R106). -/
theorem legalWord_iff_of_decoding {w : OpWord} {r : Except Reject Instr} (h : Decoding w r) :
    legalWord w = true ↔ ∃ i, r = .ok i := by
  rw [legalWord_iff]
  cases h with
  | write | read => exact iff_of_true (by simp) ⟨_, rfl⟩
  | tick | reset | pollNmi | pollFrame => exact iff_of_true (by decide) ⟨_, rfl⟩
  | reservedBit hz => exact iff_of_false (fun ⟨_, hclear, _⟩ => absurd hz (Bool.eq_false_iff.1 hclear)) nofun
  | reservedClass hcls => exact iff_of_false (fun ⟨hle, _⟩ => absurd hcls hle.not_gt) nofun
  | readWithData hcls hdata => exact iff_of_false (fun ⟨_, _, hread, _⟩ => hdata (hread hcls)) nofun
  | operandBits hcls hbits => exact iff_of_false (fun ⟨_, _, _, hbare⟩ => hbits (hbare hcls)) nofun

theorem exec_completes (i : Instr) (s : State) : ∃ t, exec i s = .next t :=
  (exec_toggle s i).imp fun _ ⟨hnext, _⟩ => hnext

/-- Settles O5: a word is legal exactly if it decodes, and every transaction completes. -/
theorem reservedWordsAreRefused : Obligations.ReservedWordsAreRefused := by
  intro s word rest hs
  have hlegal := legalWord_iff_of_decoding (decode_decoding word)
  constructor
  · intro hillegal
    cases hw : decode word with
    | ok i => exact absurd (hlegal.2 ⟨i, hw⟩) (Bool.eq_false_iff.1 hillegal)
    | error why => exact ⟨why, step_of_decode_error hs hw⟩
  · intro hword
    obtain ⟨i, hw⟩ := hlegal.1 hword
    rw [step_of_decode_ok hs hw]
    exact exec_completes i _

end Sys2Proof.Machine
end

section
/-! PROOFS. The beam as an offset within the frame: what one TICK and a run of TICKs do to it, and the RUNTO statement. -/

namespace Sys2Proof.Machine

variable {s t : State}

/-- A run of TICKs completes at the iterate of one. -/
theorem runInstrs_ticks (n : Nat) (s : State) : runInstrs (List.replicate n .tick) s = .next (tickState^[n] s) := by
  induction n generalizing s with
  | zero => rfl
  | succ n ih => exact ih (tickState s)

/-! The offset of the beam and the length of its frame (R159). -/

/-- The beam's position within the frame, in dots from `(0, 0)`. -/
def beamOffset (s : State) : Nat := frameOffset s.scanline s.dot

/-- The conditions of the skip of R151, but for the position. -/
def skipEnabled (s : State) : Bool := s.params.oddFrameSkip && s.oddFrame && renderingEnabled s

theorem frameLength_eq (s : State) :
    frameLength s =
      if skipEnabled s = true ∧ beamOffset s < 341 * preRender s + 340 then 341 * preRender s + 340
      else 341 * preRender s + 341 := by
  have hshort : fullFrame s - 1 = 341 * preRender s + 340 := by
    unfold fullFrame
    omega
  rw [frameLength, frameWillSkip, hshort, ← skipEnabled, ← beamOffset]
  simp only [Bool.and_eq_true, decide_eq_true_eq]
  rfl

theorem skipsDot_iff (s : State) :
    skipsDot s = true ↔ skipEnabled s = true ∧ s.scanline = preRender s ∧ s.dot = 339 := by
  simp only [skipsDot, skipEnabled, Bool.and_eq_true, beq_iff_eq, and_assoc]

@[simp] theorem tickState_preRender (s : State) : preRender (tickState s) = preRender s := by
  rw [preRender, tickState_params, preRender]

theorem tickState_positionInv (hs : PositionInv s) : PositionInv (tickState s) := by
  have hadvance := (advanceTiming_work s).positionInv hs
  unfold PositionInv at *
  rwa [(advanceTiming_work s).preRender_eq, ← tickState_scanline, ← tickState_dot, ← tickState_preRender] at hadvance

theorem skipEnabled_tickState (hodd : (tickState s).oddFrame = s.oddFrame) :
    skipEnabled (tickState s) = skipEnabled s := by
  simp only [skipEnabled, renderingEnabled, tickState_params, tickState_mask, hodd]

/-- R151, R159: the advance goes one dot on within the frame, or from its last dot to `(0, 0)` of the next. -/
theorem TimingWork.offset (h : TimingWork s t) (hs : PositionInv s) :
    (beamOffset s + 1 < frameLength s ∧ beamOffset t = beamOffset s + 1 ∧ t.oddFrame = s.oddFrame) ∨
      (beamOffset s + 1 = frameLength s ∧ beamOffset t = 0 ∧ t.oddFrame = !s.oddFrame) := by
  have hskip := skipsDot_iff s
  obtain ⟨hline, hdot⟩ := hs
  rw [frameLength_eq]
  unfold beamOffset frameOffset
  cases h with
  | skip htaken =>
    obtain ⟨henabled, hlast, h339⟩ := hskip.1 htaken
    refine .inr ⟨?_, rfl, rfl⟩
    rw [if_pos ⟨henabled, by omega⟩]
    omega
  | nextDot hrun hne =>
    refine .inl ⟨?_, rfl, rfl⟩
    split_ifs with hshort
    · have hnot : ¬ (s.scanline = preRender s ∧ s.dot = 339) := fun hlast =>
        Bool.eq_false_iff.1 hrun (hskip.2 ⟨hshort.1, hlast⟩)
      omega
    · omega
  | nextLine _ h340 hlt =>
    refine .inl ⟨?_, by dsimp; omega, rfl⟩
    split_ifs <;> omega
  | nextFrame _ h340 hge =>
    refine .inr ⟨?_, rfl, rfl⟩
    rw [if_neg (by omega)]
    omega

theorem tickState_beamOffset (hs : PositionInv s) :
    (beamOffset s + 1 < frameLength s ∧ beamOffset (tickState s) = beamOffset s + 1 ∧
        (tickState s).oddFrame = s.oddFrame) ∨
      (beamOffset s + 1 = frameLength s ∧ beamOffset (tickState s) = 0 ∧ (tickState s).oddFrame = !s.oddFrame) := by
  have hadvance := (advanceTiming_work s).offset hs
  rwa [tickState_oddFrame, beamOffset, beamOffset, tickState_scanline, tickState_dot]

/-- The length of the frame does not change on the way to its end. -/
theorem frameLength_tickState (hs : PositionInv s) (hk : beamOffset s + 1 < frameLength s) :
    frameLength (tickState s) = frameLength s := by
  obtain ⟨-, hoff, hodd⟩ | ⟨hend, -⟩ := tickState_beamOffset hs
  · rw [frameLength_eq s] at hk
    rw [frameLength_eq, frameLength_eq, skipEnabled_tickState hodd, hoff, tickState_preRender]
    by_cases hshort : skipEnabled s = true ∧ beamOffset s < 341 * preRender s + 340
    · rw [if_pos hshort] at hk ⊢
      rw [if_pos ⟨hshort.1, hk⟩]
    · rw [if_neg hshort, if_neg fun ⟨henabled, hbefore⟩ => hshort ⟨henabled, by omega⟩]
  · omega

/-- R159: TICKs within the frame move the beam on by one dot each. -/
theorem ticks_within_frame (k : Nat) (hs : PositionInv s) (hk : beamOffset s + k < frameLength s) :
    PositionInv (tickState^[k] s) ∧ beamOffset (tickState^[k] s) = beamOffset s + k ∧
      frameLength (tickState^[k] s) = frameLength s ∧ (tickState^[k] s).oddFrame = s.oddFrame := by
  induction k with
  | zero => exact ⟨hs, rfl, rfl, rfl⟩
  | succ k ih =>
    obtain ⟨hpos, hoff, hlen, hodd⟩ := ih (by omega)
    rw [Function.iterate_succ_apply']
    have hnext : beamOffset (tickState^[k] s) + 1 < frameLength (tickState^[k] s) := by omega
    obtain ⟨-, hoff', hodd'⟩ | ⟨hend, -⟩ := tickState_beamOffset hpos
    · exact ⟨tickState_positionInv hpos, by omega, (frameLength_tickState hpos hnext).trans hlen, hodd'.trans hodd⟩
    · omega

/-- R153, R159: the TICKs left in the frame lead to `(0, 0)` of the next, which has the other parity. -/
theorem ticks_to_next_frame {k : Nat} (hs : PositionInv s) (hk : beamOffset s + k = frameLength s) (hleft : 0 < k) :
    PositionInv (tickState^[k] s) ∧ beamOffset (tickState^[k] s) = 0 ∧ (tickState^[k] s).oddFrame = !s.oddFrame := by
  obtain ⟨j, rfl⟩ := Nat.exists_eq_succ_of_ne_zero hleft.ne'
  obtain ⟨hpos, hoff, hlen, hodd⟩ := ticks_within_frame j hs (by omega)
  rw [Function.iterate_succ_apply']
  obtain ⟨hlt, -⟩ | ⟨-, hoff', hodd'⟩ := tickState_beamOffset hpos
  · omega
  · exact ⟨tickState_positionInv hpos, hoff', hodd'.trans (by rw [hodd])⟩

@[simp] theorem ticks_params (k : Nat) (s : State) : (tickState^[k] s).params = s.params := by
  induction k with
  | zero => rfl
  | succ k ih => rw [Function.iterate_succ_apply', tickState_params, ih]

theorem beamOffset_lt_frameLength (hs : PositionInv s) : beamOffset s < frameLength s := by
  obtain ⟨hlt, -⟩ | ⟨hend, -⟩ := tickState_beamOffset hs <;> omega

/-- R151: of two frames in a row at most one is odd and has the skip. -/
theorem skipEnabled_of_flip (hodd : t.oddFrame = !s.oddFrame) (hskip : skipEnabled t = true) :
    skipEnabled s = false := by
  simp only [skipEnabled, hodd, Bool.and_eq_true, Bool.not_eq_true'] at hskip
  obtain ⟨⟨-, heven⟩, -⟩ := hskip
  simp [skipEnabled, heven]

/-- A target that this frame does not reach any more lies within the next one, whether or not that one has the skip. -/
theorem target_lt_next_frameLength {there : Nat} (hs : PositionInv s) (ht : beamOffset t = 0)
    (hpre : preRender t = preRender s) (hodd : t.oddFrame = !s.oddFrame) (hthere : there ≤ 341 * preRender s + 340)
    (hmiss : ¬ (beamOffset s ≤ there ∧ there < frameLength s)) : there < frameLength t := by
  rw [frameLength_eq t, hpre, ht]
  by_cases hskip : skipEnabled t = true
  · have hnoSkip : skipEnabled s = false := skipEnabled_of_flip hodd hskip
    have hhere := beamOffset_lt_frameLength hs
    rw [frameLength_eq, if_neg (by simp [hnoSkip])] at hhere hmiss
    split_ifs <;> omega
  · rw [if_neg fun hshort => hskip hshort.1]
    omega

theorem ticks_ticksTo {sl d : Nat} (hs : PositionInv s) (hline : sl ≤ preRender s) (hdot : d ≤ 340) :
    PositionInv (tickState^[ticksTo sl d s] s) ∧ beamOffset (tickState^[ticksTo sl d s] s) = frameOffset sl d := by
  have hlt := beamOffset_lt_frameLength hs
  unfold ticksTo
  rw [← beamOffset]
  dsimp only
  split_ifs with hahead
  · obtain ⟨hpos, hoff, -⟩ := ticks_within_frame (frameOffset sl d - beamOffset s) hs (by omega)
    exact ⟨hpos, by omega⟩
  · obtain ⟨hpos, hzero, hodd⟩ := ticks_to_next_frame (k := frameLength s - beamOffset s) hs (by omega) (by omega)
    have htarget := target_lt_next_frameLength (there := frameOffset sl d) hs hzero (by simp [preRender]) hodd
      (by unfold frameOffset; omega) hahead
    obtain ⟨hpos', hoff, -⟩ := ticks_within_frame (frameOffset sl d) hpos (by omega)
    rw [Nat.add_comm, Function.iterate_add_apply]
    exact ⟨hpos', by omega⟩

/-- The offset of a position of the frame determines it. -/
theorem frameOffset_inj {sl d sl' d' : Nat} (hd : d ≤ 340) (hd' : d' ≤ 340)
    (h : frameOffset sl d = frameOffset sl' d') : sl = sl' ∧ d = d' := by
  unfold frameOffset at h
  omega

/-- Settles O60: within the frame, or to its end and then within the next one, the beam reaches the target's offset. -/
theorem runToReachesTarget : Obligations.RunToReachesTarget := by
  intro s sl d hs hwf
  obtain ⟨hline, hdot⟩ : sl ≤ preRender s ∧ d ≤ 340 := of_decide_eq_true hwf
  obtain ⟨⟨-, hdot'⟩, hoff⟩ := ticks_ticksTo hs hline hdot
  refine ⟨tickState^[ticksTo sl d s] s, ?_, frameOffset_inj hdot' hdot hoff⟩
  rw [runLines, lineInstrs, runInstrs_ticks]
  rfl

end Sys2Proof.Machine
end

section
/-! PROOFS. The register transactions that make no access (40_registers.md sections 2, 3 and 6): the bit fields they replace
in `t`, the equation of each that has cases, and the statements they settle. -/

namespace Sys2Proof.Machine

/-! A field of a loopy register replaced (R97 to R99). -/

section
variable {n : Nat}

/-- `v` with the `n` bits from bit `pos` up replaced by `c`. -/
def replaceField (pos : Nat) (v : LoopyAddr) (c : BitVec n) : LoopyAddr :=
  (v &&& ~~~((BitVec.allOnes n).setWidth 15 <<< pos)) ||| (c.setWidth 15 <<< pos)

variable {pos : Nat} {v : LoopyAddr} {c : BitVec n}

theorem getLsbD_replaceField (hfit : pos + n ≤ 15) (k : Nat) :
    (replaceField pos v c).getLsbD k = if pos ≤ k ∧ k < pos + n then c.getLsbD (k - pos) else v.getLsbD k := by
  by_cases hk : k < 15
  · simp only [replaceField, BitVec.getLsbD_or, BitVec.getLsbD_and, BitVec.getLsbD_not, BitVec.getLsbD_shiftLeft,
      BitVec.getLsbD_setWidth, BitVec.getLsbD_allOnes, hk, decide_true, Bool.true_and]
    by_cases hlo : k < pos
    · simp [hlo, Nat.not_le.2 hlo]
    · by_cases hhi : k < pos + n
      · have hin : k - pos < n ∧ k - pos < 15 := by omega
        simp [hlo, hhi, hin, Nat.not_lt.1 hlo]
      · have hout : n ≤ k - pos := by omega
        simp [hlo, hhi, hout.not_gt, BitVec.getLsbD_of_ge c _ hout]
  · have hfield : ¬ (pos ≤ k ∧ k < pos + n) := by omega
    rw [if_neg hfield, BitVec.getLsbD_of_ge _ _ (by omega), BitVec.getLsbD_of_ge _ _ (by omega)]

theorem extractLsb'_replaceField_same (hfit : pos + n ≤ 15) : (replaceField pos v c).extractLsb' pos n = c := by
  apply BitVec.eq_of_getLsbD_eq
  intro i hi
  simp [getLsbD_replaceField hfit, hi]

theorem extractLsb'_replaceField_other {start len : Nat} (hfit : pos + n ≤ 15)
    (hapart : start + len ≤ pos ∨ pos + n ≤ start) :
    (replaceField pos v c).extractLsb' start len = v.extractLsb' start len := by
  apply BitVec.eq_of_getLsbD_eq
  intro i hi
  have hout : ¬ (pos ≤ start + i ∧ start + i < pos + n) := by omega
  simp [getLsbD_replaceField hfit, hout]

end

theorem ctrlIntoT_eq (t : LoopyAddr) (d : Byte) : ctrlIntoT t d = replaceField 10 t (nametableSelect d) := rfl

theorem scrollFirstIntoT_eq (t : LoopyAddr) (d : Byte) : scrollFirstIntoT t d = replaceField 0 t (d.extractLsb' 3 5) := by
  simp [scrollFirstIntoT, setCoarseX, replaceField]

theorem scrollSecondIntoT_eq (t : LoopyAddr) (d : Byte) :
    scrollSecondIntoT t d = replaceField 5 (replaceField 12 t (d.extractLsb' 0 3)) (d.extractLsb' 3 5) := rfl

/-- The first ADDR half replaces bits 14..8, the six bits of the byte below a 0 (R99). -/
theorem addrFirstIntoT_eq (t : LoopyAddr) (d : Byte) :
    addrFirstIntoT t d = replaceField 8 t ((d.extractLsb' 0 6).setWidth 7) := by
  simp [addrFirstIntoT, replaceField]

theorem addrSecondIntoT_eq (t : LoopyAddr) (d : Byte) : addrSecondIntoT t d = replaceField 0 t d := by
  simp [addrSecondIntoT, replaceField]

/-! The writes. -/

/-- Settles O7: the two bits of `t` are the field that the nametable select replaces. -/
theorem ctrlWriteResult : Obligations.CtrlWriteResult := by
  intro d s
  have hbit (k : Nat) := getLsbD_replaceField (v := s.t) (c := nametableSelect d) (pos := 10) (by decide) k
  rw [← ctrlIntoT_eq] at hbit
  refine ⟨ctrlIntoT s.t d, rfl, ?_, ?_, fun k h10 h11 => ?_⟩
  · rw [hbit]
    simp [nametableSelect]
  · rw [hbit]
    simp [nametableSelect]
  · have hout : ¬ (10 ≤ k ∧ k < 10 + 2) := by omega
    rw [hbit, if_neg hout]

/-- Settles O8: the three meanings, as R122 to R124 write them. -/
theorem maskStatusOamAddrWriteResults : Obligations.MaskStatusOamAddrWriteResults := fun _ _ => ⟨rfl, rfl, rfl⟩

theorem storeOamData_of_active {d : Byte} {s : State} (hactive : activeLine s = true) :
    storeOamData d s = { s with oamAddr := s.oamAddr + 4 } := if_pos hactive

theorem storeOamData_of_inactive {d : Byte} {s : State} (hactive : activeLine s = false) :
    storeOamData d s = { oamWrite s.oamAddr d s with oamAddr := s.oamAddr + 1 } := by
  simp [storeOamData, hactive]

/-- Settles O9: the store outside active lines is `oamWrite`, whose byte and frame `oamRead_oamWrite` gives. -/
theorem oamDataWriteResult : Obligations.OamDataWriteResult := by
  intro d s
  constructor
  · intro hactive
    simp only [exec, execOamDataW, storeOamData_of_active hactive, endWrite]
  · intro hactive
    refine ⟨endWrite d (storeOamData d s), rfl, ?_⟩
    rw [storeOamData_of_inactive hactive]
    exact ⟨rfl, fun a => oamRead_oamWrite s s.oamAddr a d⟩

theorem writeScroll_first {d : Byte} {s : State} (hw : s.w = false) :
    writeScroll d s = { s with t := replaceField 0 s.t (d.extractLsb' 3 5), x := d.extractLsb' 0 3, w := true } := by
  simp [writeScroll, hw, scrollFirstIntoT_eq, scrollFineX]

theorem writeScroll_second {d : Byte} {s : State} (hw : s.w = true) :
    writeScroll d s = { s with
      t := replaceField 5 (replaceField 12 s.t (d.extractLsb' 0 3)) (d.extractLsb' 3 5), w := false } := by
  simp [writeScroll, hw, scrollSecondIntoT_eq]

/-- Settles O10: the fields replaced read as their operands, and the bits beside them as before. -/
theorem scrollWriteResult : Obligations.ScrollWriteResult := by
  intro d s
  constructor
  · intro hw
    refine ⟨_, by rw [exec, execScrollW, writeScroll_first hw]; rfl, extractLsb'_replaceField_same (by decide),
      extractLsb'_replaceField_other (by decide) (by decide)⟩
  · intro hw
    refine ⟨_, by rw [exec, execScrollW, writeScroll_second hw]; rfl, ?_, extractLsb'_replaceField_same (by decide),
      ?_, ?_⟩
    · rw [extractLsb'_replaceField_other (by decide) (by decide), extractLsb'_replaceField_same (by decide)]
    · exact (extractLsb'_replaceField_other (by decide) (by decide)).trans
        (extractLsb'_replaceField_other (by decide) (by decide))
    · exact (extractLsb'_replaceField_other (by decide) (by decide)).trans
        (extractLsb'_replaceField_other (by decide) (by decide))

theorem writeAddr_first {d : Byte} {s : State} (hw : s.w = false) :
    writeAddr d s = { s with t := replaceField 8 s.t ((d.extractLsb' 0 6).setWidth 7), w := true } := by
  simp [writeAddr, hw, addrFirstIntoT_eq]

theorem writeAddr_second_of_active {d : Byte} {s : State} (hw : s.w = true) (hactive : activeLine s = true) :
    writeAddr d s = { s with t := replaceField 0 s.t d, v := replaceField 0 s.t d, w := false } := by
  unfold writeAddr
  rw [if_pos hw, addrSecondIntoT_eq]
  exact if_pos hactive

theorem writeAddr_second_of_inactive {d : Byte} {s : State} (hw : s.w = true) (hactive : activeLine s = false) :
    writeAddr d s = { s with
      t := replaceField 0 s.t d, v := replaceField 0 s.t d, w := false, busAddr := dataAddr (replaceField 0 s.t d),
      events := busEvents (dataAddr (replaceField 0 s.t d)) s } := by
  unfold writeAddr
  rw [if_pos hw, addrSecondIntoT_eq]
  exact (if_neg (Bool.eq_false_iff.1 hactive)).trans (busPlace_eq _ _)

theorem dataAddr_eq_extractLsb' (v : LoopyAddr) : dataAddr v = v.extractLsb' 0 14 :=
  BitVec.setWidth_eq_extractLsb' (by decide)

/-- Settles O11: each half replaces its field of `t`, and the second off active lines places `v & 0x3FFF`. -/
theorem addrWriteResult : Obligations.AddrWriteResult := by
  intro d s
  constructor
  · intro hw
    refine ⟨_, by rw [exec, execAddrW, writeAddr_first hw]; rfl, ?_, ?_,
      extractLsb'_replaceField_other (by decide) (by decide)⟩
    · apply BitVec.eq_of_getLsbD_eq
      intro i hi
      have hin : i < 7 ∧ ¬ 15 ≤ 8 + i := by omega
      simp [getLsbD_replaceField, hi, hin]
    · rw [getLsbD_replaceField (by decide)]
      simp
  · intro hw
    refine ⟨replaceField 0 s.t d, extractLsb'_replaceField_same (by decide),
      extractLsb'_replaceField_other (by decide) (by decide), fun hactive => ?_, fun hactive => ?_⟩
    · rw [exec, execAddrW, writeAddr_second_of_active hw hactive]
      rfl
    · rw [exec, execAddrW, writeAddr_second_of_inactive hw hactive, dataAddr_eq_extractLsb']
      rfl

/-! The reads and the polls. -/

/-- Settles O14: the five meanings are `latchRead`. -/
theorem writeOnlyReadsReturnLatch : Obligations.WriteOnlyReadsReturnLatch := by
  intro i s hi
  simp only [List.mem_cons, List.not_mem_nil, or_false] at hi
  rcases hi with rfl | rfl | rfl | rfl | rfl <;> rfl

/-- Settles O15: the bits of the status byte, and the race window written as a choice. -/
theorem statusReadResult : Obligations.StatusReadResult := by
  intro s
  refine ⟨statusByte s, ?_, ?_, ?_, ?_, ?_⟩
  · have hvblank : (s.vblank && s.vblankStartDot) = if s.vblankStartDot then s.vblank else false := by
      cases s.vblankStartDot <;> simp
    rw [exec, execStatusR, hvblank]
    rfl
  · simp only [statusByte, BitVec.getLsbD_append]
    simp
  · simp only [statusByte, BitVec.getLsbD_append]
    simp
  · simp only [statusByte, BitVec.getLsbD_append]
    simp
  · exact BitVec.extractLsb'_append_eq_right

/-- Settles O16: the byte read is the invariant's at an attribute index. -/
theorem oamDataReadResult : Obligations.OamDataReadResult :=
  fun s => ⟨oamRead s.oamAddr s, rfl, rfl, fun hinv hattr => hinv s.oamAddr hattr⟩

/-- Settles O18: the two meanings, as R139 and R140 write them. -/
theorem pollResults : Obligations.PollResults := fun _ => ⟨rfl, rfl⟩

/-! Every transaction. -/

/-- Settles O6: a TICK and RESET keep both fields, and neither is among those of `RegisterFrame`. -/
theorem everyTransactionCompletes : Obligations.EveryTransactionCompletes := by
  intro i s
  by_cases htick : i = .tick
  · exact ⟨tickState s, htick ▸ rfl, tickState_params s, tickState_issued s⟩
  by_cases hreset : i = .reset
  · exact ⟨resetState s, hreset ▸ rfl, rfl, rfl⟩
  obtain ⟨t, ht, hframe⟩ := exec_registerFrame s i htick hreset
  exact ⟨t, ht, by rw [hframe], by rw [hframe]⟩

end Sys2Proof.Machine
end

section
/-! PROOFS. The data port (R128, R136, R137): the access at `v & 0x3FFF` and the increment after it, each in closed form, the
calls of a whole data-port transaction, and the three statements they settle. -/

namespace Sys2Proof.Machine

/-! The increment. -/

/-- `v` after the increment: the rendering glitch on an active line, else the CTRL increment in 14 bits (R137). -/
def incrementedV (s : State) : LoopyAddr :=
  if activeLine s then incFineY (incCoarseX s.v) else (s.v + vramIncrement s.ctrl) &&& 0x3FFF#15

theorem dataIncrement_of_active {s : State} (hactive : activeLine s = true) :
    dataIncrement s = { s with v := incrementedV s } := by
  rw [dataIncrement, incrementedV, if_pos hactive, if_pos hactive]
  rfl

theorem dataIncrement_of_inactive {s : State} (hactive : activeLine s = false) :
    dataIncrement s = { s with
      v := incrementedV s, busAddr := dataAddr (incrementedV s), events := busEvents (dataAddr (incrementedV s)) s } := by
  rw [dataIncrement, incrementedV, if_neg (Bool.eq_false_iff.1 hactive), if_neg (Bool.eq_false_iff.1 hactive)]
  exact busPlace_eq _ _

/-- Off active lines the increment moves the address, by 1 or 32 modulo 0x4000. -/
theorem dataAddr_incrementedV_ne {s : State} (hactive : activeLine s = false) :
    dataAddr (incrementedV s) ≠ dataAddr s.v := by
  have hsum : dataAddr (incrementedV s) = dataAddr s.v + (vramIncrement s.ctrl).setWidth 14 := by
    simp only [incrementedV, hactive, Bool.false_eq_true, if_false, dataAddr, BitVec.setWidth_and,
      BitVec.setWidth_add _ _ (show 14 ≤ 15 by decide)]
    exact BitVec.and_allOnes
  rw [hsum, ne_eq, add_eq_left, vramIncrement]
  split <;> decide

/-! The calls of a data-port transaction, newest first (log entry 3). -/

/-- The call of placing an address (R73). -/
def placementCalls (a : BusAddr) (s : State) : List Event :=
  if a ≠ s.busAddr ∧ s.params.mapperAttached = true then [.addressBusChanged a] else []

theorem placementCalls_append (a : BusAddr) (s : State) : placementCalls a s ++ s.events = busEvents a s := by
  unfold placementCalls busEvents
  split <;> rfl

/-- The calls of an access at `a` whose mapper call is `call`: the address placed, then `call` for a pattern address. -/
def accessCalls (call : Event) (a : BusAddr) (s : State) : List Event :=
  if a ≤ 0x1FFF#14 ∧ s.params.mapperAttached = true then call :: placementCalls a s else placementCalls a s

theorem accessCalls_append (call : Event) (a : BusAddr) (s : State) :
    accessCalls call a s ++ s.events =
      if a ≤ 0x1FFF#14 ∧ s.params.mapperAttached = true then call :: busEvents a s else busEvents a s := by
  rw [accessCalls, ← placementCalls_append]
  split <;> rfl

/-- The call of the increment: the new address, off active lines. -/
def incrementCalls (s : State) : List Event :=
  if activeLine s = false ∧ s.params.mapperAttached = true then [.addressBusChanged (dataAddr (incrementedV s))] else []

/-- Among the reads and writes of the mapper, the calls of a data-port transaction are `call` or none. -/
theorem mem_portCalls {e call : Event} {a : BusAddr} {s : State} (he : ∀ b, e ≠ .addressBusChanged b) :
    e ∈ incrementCalls s ++ accessCalls call a s ↔ a ≤ 0x1FFF#14 ∧ s.params.mapperAttached = true ∧ e = call := by
  have hincrement : e ∉ incrementCalls s := by
    unfold incrementCalls
    split <;> simp [he]
  have hplace : e ∉ placementCalls a s := by
    unfold placementCalls
    split <;> simp [he]
  unfold accessCalls
  split
  next hcall => simp [hincrement, hplace, hcall]
  next hnone => simp [hincrement, hplace, ← and_assoc, hnone]

/-! The access. -/

/-- From `s` to `u` a data port makes its access, with the mapper call `call`: the address of `v` is placed, the calls are
recorded, and the memories and the read buffer may change (R128, R136). -/
def PortAccess (call : Event) (s u : State) : Prop :=
  u = { s with
    busAddr := dataAddr s.v, events := accessCalls call (dataAddr s.v) s ++ s.events,
    ntRam := u.ntRam, palRam := u.palRam, chrFallback := u.chrFallback, readBuffer := u.readBuffer }

theorem memWrite_portAccess (d : Byte) (s : State) :
    PortAccess (.writeChr (dataAddr s.v) d) s (memWrite (dataAddr s.v) d s) := by
  unfold PortAccess
  rw [accessCalls_append, memWrite_eq]

theorem readData_of_buffered {s : State} (ha : dataAddr s.v ≤ 0x3EFF#14) :
    readData s = (s.readBuffer, { s with
      busAddr := dataAddr s.v, events := readEvents (dataAddr s.v) s, readBuffer := busByte (dataAddr s.v) s }) := by
  simp only [readData, memRead_eq, ha, if_true]

theorem readData_readBuffer_of_buffered {s : State} (ha : dataAddr s.v ≤ 0x3EFF#14) :
    (readData s).2.readBuffer = busByte (dataAddr s.v) s := by
  rw [readData_of_buffered ha]

theorem readData_of_palette {s : State} (ha : ¬ dataAddr s.v ≤ 0x3EFF#14) :
    readData s = (palRead ((dataAddr s.v).setWidth 5) s, { s with
      busAddr := dataAddr s.v, events := readEvents (dataAddr s.v) s,
      readBuffer := ntRead (dataAddr s.v - 0x1000#14) s }) := by
  have hpattern : ¬ dataAddr s.v ≤ 0x1FFF#14 := fun h => ha (BitVec.le_trans h (by decide))
  simp only [readData, memRead_eq, ha, if_false, busByte, hpattern]
  rfl

theorem readData_portAccess (s : State) :
    PortAccess (.readChr (dataAddr s.v) (busByte (dataAddr s.v) s)) s (readData s).2 := by
  unfold PortAccess
  rw [accessCalls_append]
  by_cases ha : dataAddr s.v ≤ 0x3EFF#14
  · rw [readData_of_buffered ha]
    rfl
  · rw [readData_of_palette ha]
    rfl

/-- A data-port transaction but for its ends, from the state before the access. -/
theorem PortAccess.dataIncrement_eq {call : Event} {s u : State} (h : PortAccess call s u) :
    dataIncrement u = { s with
      v := incrementedV s
      busAddr := if activeLine s then dataAddr s.v else dataAddr (incrementedV s)
      events := incrementCalls s ++ accessCalls call (dataAddr s.v) s ++ s.events
      ntRam := u.ntRam, palRam := u.palRam, chrFallback := u.chrFallback, readBuffer := u.readBuffer } := by
  have hline : activeLine u = activeLine s := by rw [h]; rfl
  have hv : incrementedV u = incrementedV s := by rw [h]; rfl
  cases hactive : activeLine s with
  | true =>
    rw [dataIncrement_of_active (hline.trans hactive), hv, h]
    simp [incrementCalls, hactive]
  | false =>
    have hevents : busEvents (dataAddr (incrementedV s)) u =
        incrementCalls s ++ accessCalls call (dataAddr s.v) s ++ s.events := by
      rw [h]
      simp only [busEvents, incrementCalls, hactive, true_and, ne_eq, dataAddr_incrementedV_ne hactive,
        not_false_eq_true]
      split <;> rfl
    rw [dataIncrement_of_inactive (hline.trans hactive), hv, hevents, h]
    simp

/-! The three ranges of the address space, by the number of the address (R62). -/

theorem pattern_iff (a : BusAddr) : a ≤ 0x1FFF#14 ↔ a.toNat ≤ 0x1FFF := Iff.rfl

theorem above_pattern_iff (a : BusAddr) : 0x1FFF#14 < a ↔ 0x2000 ≤ a.toNat := Iff.rfl

theorem below_palette_iff (a : BusAddr) : a ≤ 0x3EFF#14 ↔ a.toNat ≤ 0x3EFF := Iff.rfl

theorem palette_iff (a : BusAddr) : 0x3EFF#14 < a ↔ 0x3F00 ≤ a.toNat := Iff.rfl

/-! The memories after a write (R62, R66, R68, R70). -/

section
variable (a : BusAddr) (d : Byte) (s : State)

theorem ntRead_memWrite (b : BusAddr) :
    ntRead b (memWrite a d s) =
      if 0x2000 ≤ a.toNat ∧ a.toNat ≤ 0x3EFF ∧
          ntIndex s.params.mirroring (b.extractLsb' 0 12) = ntIndex s.params.mirroring (a.extractLsb' 0 12)
        then d else ntRead b s := by
  simp only [memWrite_eq, ntRead, above_pattern_iff, below_palette_iff,
    BitVec.setWidth_eq_extractLsb' (show 12 ≤ 14 by decide), ← and_assoc]
  by_cases hrange : 0x2000 ≤ a.toNat ∧ a.toNat ≤ 0x3EFF
  · simp only [hrange, and_self, if_true, true_and, Memory.read_write]
  · simp only [hrange, if_false, false_and]

theorem palRead_memWrite (i : BitVec 5) :
    palRead i (memWrite a d s) =
      if 0x3F00 ≤ a.toNat ∧ palIndex i = palIndex (a.extractLsb' 0 5) then d &&& 0x3F else palRead i s := by
  simp only [memWrite_eq, palRead, palEntry, palette_iff, BitVec.setWidth_eq_extractLsb' (show 5 ≤ 14 by decide)]
  by_cases hrange : 0x3F00 ≤ a.toNat
  · simp only [hrange, if_true, true_and, Memory.read_write, BitVec.toNat_inj]
    split
    · exact setWidth_entry d
    · rfl
  · simp only [hrange, if_false, false_and]

theorem chrFallback_read_memWrite (n : Nat) :
    (memWrite a d s).chrFallback.read n =
      if a.toNat ≤ 0x1FFF ∧ s.params.mapperAttached = false ∧ n = a.toNat then d else s.chrFallback.read n := by
  simp only [memWrite_eq, pattern_iff, ← and_assoc]
  by_cases hrange : a.toNat ≤ 0x1FFF ∧ s.params.mapperAttached = false
  · simp only [hrange, and_self, if_true, true_and, Memory.read_write]
  · simp only [hrange, if_false, false_and]

end

/-! The byte a read answers in the first two ranges without a mapper (R62, R70). -/

theorem busByte_of_fallback {a : BusAddr} {s : State} (ha : a ≤ 0x1FFF#14) (hmapper : s.params.mapperAttached = false) :
    busByte a s = s.chrFallback.read a.toNat := by
  simp [busByte, ha, hmapper]

theorem busByte_of_nametable {a : BusAddr} {s : State} (hlo : 0x1FFF#14 < a) (hhi : a ≤ 0x3EFF#14) :
    busByte a s = ntRead a s := by
  simp [busByte, BitVec.not_le.2 hlo, hhi]

/-! What the increment and the ends leave of an access. -/

section
variable (s : State)

@[simp] theorem ntRead_dataIncrement (a : BusAddr) : ntRead a (dataIncrement s) = ntRead a s := by
  rw [dataIncrement_frame]
  rfl

@[simp] theorem palRead_dataIncrement (i : BitVec 5) : palRead i (dataIncrement s) = palRead i s := by
  rw [dataIncrement_frame]
  rfl

@[simp] theorem dataIncrement_chrFallback : (dataIncrement s).chrFallback = s.chrFallback := by rw [dataIncrement_frame]

@[simp] theorem dataIncrement_readBuffer : (dataIncrement s).readBuffer = s.readBuffer := by rw [dataIncrement_frame]

end

/-- Settles O12: the increment keeps the memories, so each reads as after `memWrite`. -/
theorem dataWriteStores : Obligations.DataWriteStores := by
  intro d s a ha
  obtain rfl : a = dataAddr s.v := ha.trans (dataAddr_eq_extractLsb' s.v).symm
  refine ⟨_, incrementCalls s ++ accessCalls (.writeChr (dataAddr s.v) d) (dataAddr s.v) s, rfl, ?_, fun b => ?_,
    fun i => ?_, fun n => ?_, fun b c => ?_, fun b c => ?_⟩
  · rw [(memWrite_portAccess d s).dataIncrement_eq, memWrite_eq]
    rfl
  · exact (ntRead_dataIncrement _ b).trans (ntRead_memWrite (dataAddr s.v) d s b)
  · exact (palRead_dataIncrement _ i).trans (palRead_memWrite (dataAddr s.v) d s i)
  · rw [endWrite_chrFallback, dataIncrement_chrFallback]
    exact chrFallback_read_memWrite (dataAddr s.v) d s n
  · rw [mem_portCalls (by simp), Event.writeChr.injEq]
    rfl
  · rw [mem_portCalls (by simp)]
    simp

/-- Settles O17: the two cases of `readData`, with the increment keeping the refilled buffer. -/
theorem dataReadResult : Obligations.DataReadResult := by
  intro s a ha
  obtain rfl : a = dataAddr s.v := ha.trans (dataAddr_eq_extractLsb' s.v).symm
  have hbuffer : (endRead (readData s).1 (dataIncrement (readData s).2)).readBuffer = (readData s).2.readBuffer :=
    dataIncrement_readBuffer _
  refine ⟨_, (readData s).1, incrementCalls s ++ accessCalls (.readChr (dataAddr s.v) (busByte (dataAddr s.v) s))
    (dataAddr s.v) s, rfl, ?_, fun hlow => ?_, fun hpalette => ?_, fun hlo hhi => ?_, fun hpattern hmapper => ?_,
    fun b c => ?_, fun b c => ?_⟩
  · rw [(readData_portAccess s).dataIncrement_eq, readData_frame]
    rfl
  · rw [readData_of_buffered hlow]
  · rw [hbuffer, readData_of_palette (BitVec.not_le.2 hpalette)]
    exact ⟨by rw [BitVec.setWidth_eq_extractLsb' (by decide)], rfl⟩
  · rw [hbuffer, readData_readBuffer_of_buffered hhi, busByte_of_nametable hlo hhi]
  · rw [hbuffer, readData_readBuffer_of_buffered (hpattern.trans (by decide)), busByte_of_fallback hpattern hmapper]
  · rw [mem_portCalls (by simp), Event.readChr.injEq, hbuffer]
    refine and_congr_right fun hpattern => ?_
    rw [readData_readBuffer_of_buffered (BitVec.le_trans hpattern (by decide))]
  · rw [mem_portCalls (by simp)]
    simp

/-- R137: the increment after an access, and the calls recorded by then. -/
theorem PortAccess.increment {call : Event} {s u : State} (h : PortAccess call s u) :
    (activeLine s = true →
      (dataIncrement u).v = incFineY (incCoarseX s.v) ∧ (dataIncrement u).busAddr = dataAddr s.v ∧
        (dataIncrement u).events = accessCalls call (dataAddr s.v) s ++ s.events) ∧
    (activeLine s = false →
      (dataIncrement u).v = (s.v + vramIncrement s.ctrl) &&& 0x3FFF#15 ∧
        (dataIncrement u).busAddr = dataAddr (dataIncrement u).v ∧
        (dataIncrement u).events =
          if s.params.mapperAttached = true
            then .addressBusChanged (dataIncrement u).busAddr :: (accessCalls call (dataAddr s.v) s ++ s.events)
            else accessCalls call (dataAddr s.v) s ++ s.events) := by
  rw [h.dataIncrement_eq]
  refine ⟨fun hactive => ?_, fun hactive => ?_⟩
  · simp [incrementedV, incrementCalls, hactive]
  · have hv : incrementedV s = (s.v + vramIncrement s.ctrl) &&& 0x3FFF#15 := by simp [incrementedV, hactive]
    simp only [hv, hactive, incrementCalls, Bool.false_eq_true, if_false, true_and]
    split <;> rfl

theorem accessCalls_append_of_no_call {call : Event} {a : BusAddr} {s : State}
    (hnone : 0x1FFF < a.toNat ∨ s.params.mapperAttached = false) :
    accessCalls call a s ++ s.events = busEvents a s := by
  have hnot : ¬ (a ≤ 0x1FFF#14 ∧ s.params.mapperAttached = true) := by
    rcases hnone with habove | hmapper
    · exact fun h => habove.not_ge h.1
    · simp [hmapper]
  rw [accessCalls_append, if_neg hnot]

theorem accessCalls_append_of_call {call : Event} {a : BusAddr} {s : State} (ha : a.toNat ≤ 0x1FFF)
    (hmapper : s.params.mapperAttached = true) :
    accessCalls call a s ++ s.events = call :: busEvents a s := by
  rw [accessCalls_append, if_pos ⟨ha, hmapper⟩]

/-- Settles O13: both data ports make a `PortAccess`, which fixes the calls, and then the increment. -/
theorem dataPortIncrement : Obligations.DataPortIncrement := by
  intro i s a ha hi
  obtain rfl : a = dataAddr s.v := ha.trans (dataAddr_eq_extractLsb' s.v).symm
  simp only [← dataAddr_eq_extractLsb']
  rcases hi with rfl | ⟨d, rfl⟩
  · have hincrement := (readData_portAccess s).increment
    refine ⟨endRead (readData s).1 (dataIncrement (readData s).2), busEvents (dataAddr s.v) s, _, rfl, rfl,
      accessCalls_append_of_no_call, fun hpattern hmapper => ⟨fun _ => ?_, nofun⟩, hincrement⟩
    have hbuffer : (endRead (readData s).1 (dataIncrement (readData s).2)).readBuffer = busByte (dataAddr s.v) s := by
      rw [endRead_readBuffer, dataIncrement_readBuffer, readData_readBuffer_of_buffered (hpattern.trans (by decide))]
    rw [hbuffer]
    exact accessCalls_append_of_call hpattern hmapper
  · have hincrement := (memWrite_portAccess d s).increment
    refine ⟨endWrite d (dataIncrement (memWrite (dataAddr s.v) d s)), busEvents (dataAddr s.v) s, _, rfl, rfl,
      accessCalls_append_of_no_call, fun hpattern hmapper => ⟨nofun, fun d' hd => ?_⟩, hincrement⟩
    cases hd
    exact accessCalls_append_of_call hpattern hmapper

end Sys2Proof.Machine
end

section
/-! PROOFS. The timing and the VBlank flags of a TICK by the position reached, a TICK off active lines, and the length of a
frame (41_timing.md). -/

namespace Sys2Proof.Machine

variable {s t : State}

/-! The timing advance (R151). -/

/-- R151: the position and the parity each form of the advance leaves, by the conditions it is taken under. -/
theorem TimingWork.position_parity (h : TimingWork s t) :
    (skipsDot s = true → t.scanline = 0 ∧ t.dot = 0 ∧ t.oddFrame = !s.oddFrame) ∧
      (skipsDot s = false → s.dot ≠ 340 → t.scanline = s.scanline ∧ t.dot = s.dot + 1 ∧ t.oddFrame = s.oddFrame) ∧
      (skipsDot s = false → s.dot = 340 → s.scanline < preRender s →
        t.scanline = s.scanline + 1 ∧ t.dot = 0 ∧ t.oddFrame = s.oddFrame) ∧
      (skipsDot s = false → s.dot = 340 → preRender s ≤ s.scanline →
        t.scanline = 0 ∧ t.dot = 0 ∧ t.oddFrame = !s.oddFrame) := by
  cases h with
  | skip hskip => simp [hskip]
  | nextDot hskip hdot => simp [hskip, hdot]
  | nextLine hskip hdot hline => simp [hskip, hdot, hline.not_ge]
  | nextFrame hskip hdot hline => simp [hskip, hdot, hline.not_gt]

/-- Settles O21: a TICK leaves the position and the parity of its advance, and returns that parity. -/
theorem tickAdvancesTiming : Obligations.TickAdvancesTiming := by
  intro s skip hskip
  obtain rfl : skip = skipsDot s := hskip
  refine ⟨tickState s, rfl, tickState_totalCycles s, rfl, ?_⟩
  rw [tickState_scanline, tickState_dot, tickState_oddFrame]
  exact (advanceTiming_work s).position_parity

/-! The VBlank flags (R154, R155, R157). -/

/-- R154, R155, R157: the VBlank flags after the transitions of the position reached. -/
theorem VBlankWork.flags (h : VBlankWork s t) :
    (s.scanline = 241 ∧ s.dot = 1 →
        t.vblank = true ∧ t.frameComplete = true ∧ t.vblankStartDot = true ∧ t.inVBlank = true ∧
          t.nmiPending = (s.nmiPending || s.ctrl.getLsbD 7) ∧ t.sprite0Hit = s.sprite0Hit ∧
          t.spriteOverflow = s.spriteOverflow) ∧
      (s.scanline = preRender s - 1 ∧ s.dot = 340 →
        t.vblank = false ∧ t.nmiPending = false ∧ t.sprite0Hit = false ∧ t.spriteOverflow = false ∧
          t.inVBlank = false ∧ t.vblankStartDot = false ∧ t.frameComplete = s.frameComplete) ∧
      (¬ (s.scanline = 241 ∧ s.dot = 1) → ¬ (s.scanline = preRender s - 1 ∧ s.dot = 340) →
        t.vblank = s.vblank ∧ t.nmiPending = s.nmiPending ∧ t.inVBlank = s.inVBlank ∧
          t.frameComplete = s.frameComplete ∧ t.vblankStartDot = false) := by
  cases h with
  | enter hline hdot =>
    exact ⟨fun _ => ⟨rfl, rfl, rfl, rfl, rfl, rfl, rfl⟩, fun ⟨_, h340⟩ => by omega,
      fun hentry => absurd ⟨hline, hdot⟩ hentry⟩
  | exit hline hdot =>
    exact ⟨fun ⟨_, h1⟩ => by omega, fun _ => ⟨rfl, rfl, rfl, rfl, rfl, rfl, rfl⟩,
      fun _ hexit => absurd ⟨hline, hdot⟩ hexit⟩
  | none hentry hexit =>
    exact ⟨fun h => absurd h hentry, fun h => absurd h hexit, fun _ _ => ⟨rfl, rfl, rfl, rfl, rfl⟩⟩

theorem advanceTiming_flags (s : State) :
    (advanceTiming s).vblank = s.vblank ∧ (advanceTiming s).nmiPending = s.nmiPending ∧
      (advanceTiming s).inVBlank = s.inVBlank ∧ (advanceTiming s).frameComplete = s.frameComplete ∧
      (advanceTiming s).ctrl = s.ctrl := by
  rw [advanceTiming_frame]
  exact ⟨rfl, rfl, rfl, rfl, rfl⟩

/-- R156: below the picture neither the compositor nor evaluation touches the two sprite flags. -/
theorem tickState_spriteFlags_below_picture (hline : 239 < (tickState s).scanline) :
    (tickState s).sprite0Hit = (vblankTransitions (advanceTiming s)).sprite0Hit ∧
      (tickState s).spriteOverflow = (vblankTransitions (advanceTiming s)).spriteOverflow := by
  constructor
  · obtain h | ⟨-, hvisible, -⟩ := tickState_sprite0Hit_cases s
    · exact h
    · omega
  · obtain h | ⟨-, hvisible, -⟩ := tickState_spriteOverflow_cases s
    · exact h
    · omega

/-- Settles O22: the flags are those of the transitions at the position reached; entry and exit lie below the picture, where
nothing after them writes the two sprite flags. -/
theorem tickVBlankFlags : Obligations.TickVBlankFlags := by
  intro s
  obtain ⟨hentry, hexit, hnone⟩ := (vblankTransitions_work (advanceTiming s)).flags
  obtain ⟨hvblank, hnmi, hin, hcomplete, hctrl⟩ := advanceTiming_flags s
  obtain ⟨hhit, hover⟩ := advanceTiming_spriteFlags s
  simp only [preRender_advanceTiming, ← tickState_scanline, ← tickState_dot, ← tickState_vblank, ← tickState_nmiPending,
    ← tickState_frameComplete, ← tickState_vblankStartDot, ← tickState_inVBlank, hvblank, hnmi, hin, hcomplete, hctrl,
    hhit, hover] at hentry hexit hnone
  refine ⟨tickState s, rfl, fun hposition => ?_, fun hposition => ?_, hnone⟩
  · obtain ⟨hhit', hover'⟩ := tickState_spriteFlags_below_picture (s := s) (by omega)
    rw [hhit', hover']
    exact hentry hposition
  · have hlines := preRender_eq s
    obtain ⟨hhit', hover'⟩ := tickState_spriteFlags_below_picture (s := s) (by omega)
    rw [hhit', hover']
    exact hexit hposition

/-! Off active lines (R156, R158). -/

/-- R156: a line is not active with rendering disabled, nor between the picture and the pre-render line. -/
theorem activeLine_eq_false (h : (s.mask.getLsbD 3 = false ∧ s.mask.getLsbD 4 = false) ∨
    (240 ≤ s.scanline ∧ s.scanline ≠ preRender s)) : activeLine s = false := by
  rcases h with ⟨hbg, hsp⟩ | ⟨hbelow, hpre⟩
  · have hdisabled : renderingEnabled s = false := by
      rw [renderingEnabled, showBackground, showSprites, hbg, hsp, Bool.or_false]
    rw [activeLine, hdisabled, Bool.false_and]
  · have hvisible : ¬ s.scanline ≤ 239 := by omega
    simp [activeLine, visible, hvisible, hpre]

/-- R150: off active lines the rendering step of a TICK does nothing. -/
theorem tickState_of_inactive (hactive : activeLine (tickState s) = false) :
    tickState s = { beforeRender s with result := .bit (beforeRender s).oddFrame } := by
  rw [activeLine_tickState] at hactive
  rw [tickState_eq, renderDot, if_neg (by simp [hactive])]

/-- R251: a TICK that reaches no visible line composes no pixel. -/
theorem beforeRender_of_below_picture (hline : 239 < (tickState s).scanline) :
    (beforeRender s).fb = s.fb ∧ (beforeRender s).events = s.events := by
  have hdot : ¬ ((vblankTransitions (advanceTiming s)).scanline ≤ 239 ∧
      1 ≤ (vblankTransitions (advanceTiming s)).dot ∧ (vblankTransitions (advanceTiming s)).dot ≤ 256) := by
    obtain ⟨hreached, -, -⟩ := vblankTransitions_advanceTiming_kept s
    omega
  rw [beforeRender, composeDot_of_no_pixel _ hdot, vblankTransitions_frame, advanceTiming_frame]
  exact ⟨rfl, rfl⟩

/-- Settles O24: without the rendering step a TICK is its advance, the VBlank transitions and the pixel, and below the picture
there is no pixel. -/
theorem tickOffActiveLines : Obligations.TickOffActiveLines := by
  intro s
  refine ⟨tickState s, rfl, fun hoff => ?_⟩
  have hinactive : activeLine (tickState s) = false := by
    apply activeLine_eq_false
    rwa [tickState_mask, tickState_preRender]
  refine ⟨?_, fun hline => ?_⟩
  · rw [tickState_of_inactive hinactive, beforeRender_frame]
  · have hkept := beforeRender_of_below_picture hline
    rwa [tickState_of_inactive hinactive]

/-! The position within a frame and its length (R152, R153, R159). -/

theorem skipEnabled_iff (s : State) :
    skipEnabled s = true ↔ s.params.oddFrameSkip = true ∧ s.oddFrame = true ∧
      (s.mask.getLsbD 3 = true ∨ s.mask.getLsbD 4 = true) := by
  simp only [skipEnabled, renderingEnabled, showBackground, showSprites, Bool.and_eq_true, Bool.or_eq_true, and_assoc]

/-- R152, R159: the length of a frame seen from its first dot. -/
theorem frameLength_of_start (hoff : beamOffset s = 0) :
    frameLength s = 341 * (preRender s + 1) -
      (if s.params.oddFrameSkip = true ∧ s.oddFrame = true ∧ (s.mask.getLsbD 3 = true ∨ s.mask.getLsbD 4 = true)
        then 1 else 0) := by
  have hbefore : 0 < 341 * preRender s + 340 := Nat.succ_pos _
  rw [frameLength_eq, hoff]
  simp only [← skipEnabled_iff, hbefore, and_true]
  split_ifs <;> omega

theorem ticks_totalCycles (k : Nat) (s : State) :
    (tickState^[k] s).totalCycles = s.totalCycles + BitVec.ofNat 64 k := by
  induction k with
  | zero => simp
  | succ k ih => rw [Function.iterate_succ_apply', tickState_totalCycles, ih, BitVec.ofNat_add, BitVec.add_assoc]

theorem start_of_frame (hline : s.scanline = 0) (hdot : s.dot = 0) : PositionInv s ∧ beamOffset s = 0 := by
  simp [PositionInv, beamOffset, frameOffset, hline, hdot]

/-- Settles O58: within the frame the offset counts the TICKs, and its quotient and remainder by 341 are the position. -/
theorem positionAfterTicks : Obligations.PositionAfterTicks := by
  intro s k last hline hdot hlast hk
  obtain ⟨hpos, hstart⟩ := start_of_frame hline hdot
  have hlength : frameLength s = last + 1 := by
    rw [frameLength_of_start hstart, hlast]
    split_ifs <;> omega
  obtain ⟨⟨-, hdot'⟩, hoff, -, hodd⟩ := ticks_within_frame k hpos (by omega)
  unfold beamOffset frameOffset at hoff hstart
  exact ⟨tickState^[k] s, runInstrs_ticks k s, by omega, by omega, ticks_totalCycles k s, hodd⟩

/-- Settles O59: the TICKs of the whole frame are those left in it at its first dot. The model has the name `frameLength`. -/
theorem frameLength_ticks : Obligations.FrameLength := by
  intro s n hline hdot hn
  obtain ⟨hpos, hstart⟩ := start_of_frame hline hdot
  have hlength : n = frameLength s := hn.trans (frameLength_of_start hstart).symm
  have hleft : 0 < n := hlength ▸ Nat.zero_lt_of_lt (beamOffset_lt_frameLength hpos)
  obtain ⟨-, hoff, hodd⟩ := ticks_to_next_frame hpos (by omega) hleft
  unfold beamOffset frameOffset at hoff
  exact ⟨tickState^[n] s, runInstrs_ticks n s, by omega, by omega, hodd⟩

end Sys2Proof.Machine
end

section
/-! PROOFS. The scroll increments and copies as fields of `v` replaced (R170 to R173), and their two statements. -/

namespace Sys2Proof.Machine

variable {v : LoopyAddr}

theorem xor_twoPow_eq_replaceField {pos : Nat} (hpos : pos < 15) (v : LoopyAddr) :
    v ^^^ BitVec.twoPow 15 pos = replaceField pos v (BitVec.ofBool !v.getLsbD pos) := by
  apply BitVec.eq_of_getLsbD_eq
  intro k hk
  rw [BitVec.getLsbD_xor, BitVec.getLsbD_twoPow, getLsbD_replaceField (by omega)]
  by_cases hat : pos = k
  · simp [hat, hk]
  · have hout : ¬ (pos ≤ k ∧ k < pos + 1) := by omega
    rw [if_neg hout]
    simp [hat]

theorem setCoarseX_eq (v : LoopyAddr) (c : BitVec 5) : setCoarseX v c = replaceField 0 v c := by
  simp [setCoarseX, replaceField]

theorem setCoarseY_eq (v : LoopyAddr) (c : BitVec 5) : setCoarseY v c = replaceField 5 v c := rfl

theorem setFineY_eq (v : LoopyAddr) (c : BitVec 3) : setFineY v c = replaceField 12 v c := rfl

theorem replaceField_coarseX_eq_append (v : LoopyAddr) (c : BitVec 5) :
    replaceField 0 v c = v.extractLsb' 5 10 ++ c := by
  apply BitVec.eq_of_getLsbD_eq
  intro k hk
  rw [getLsbD_replaceField (by decide), BitVec.getLsbD_append]
  by_cases hlo : k < 5
  · simp [hlo]
  · have hfield : k - 5 < 10 ∧ 5 + (k - 5) = k := by omega
    simp [hlo, hfield]

theorem replaceField_fineY_eq_append (v : LoopyAddr) (c : BitVec 3) :
    replaceField 12 v c = c ++ v.extractLsb' 0 12 := by
  apply BitVec.eq_of_getLsbD_eq
  intro k hk
  rw [getLsbD_replaceField (by decide), BitVec.getLsbD_append]
  by_cases hlo : k < 12
  · simp [hlo]
  · have hfield : 12 ≤ k ∧ k < 15 := by omega
    simp [hlo, hfield]

/-- Below its last column, coarse X counts without a carry out of its field (R170). -/
theorem add_one_eq_replaceField (hx : coarseX v ≠ 31#5) : v + 1#15 = replaceField 0 v (coarseX v + 1#5) := by
  rw [ne_eq, ← BitVec.toNat_inj] at hx
  apply BitVec.eq_of_toNat_eq
  rw [replaceField_coarseX_eq_append, toNat_append_eq_add]
  simp only [coarseX, BitVec.toNat_add, BitVec.extractLsb'_toNat, Nat.shiftRight_eq_div_pow, BitVec.toNat_ofNat] at hx ⊢
  omega

/-- Fine Y is the top field, so its carry leaves `v` (R171). -/
theorem add_row_eq_replaceField (v : LoopyAddr) : v + 0x1000#15 = replaceField 12 v (fineY v + 1#3) := by
  apply BitVec.eq_of_toNat_eq
  rw [replaceField_fineY_eq_append, toNat_append_eq_add]
  simp only [fineY, BitVec.toNat_add, BitVec.extractLsb'_toNat, Nat.shiftRight_eq_div_pow, BitVec.toNat_ofNat]
  omega

/-- R170: coarse X counts, and its wrap flips bit 10. -/
theorem incCoarseX_eq (v : LoopyAddr) :
    incCoarseX v = if coarseX v = 31#5 then replaceField 10 (replaceField 0 v 0#5) (BitVec.ofBool !v.getLsbD 10)
      else replaceField 0 v (coarseX v + 1#5) := by
  have hflip := xor_twoPow_eq_replaceField (pos := 10) (by decide) (replaceField 0 v 0#5)
  rw [getLsbD_replaceField (by decide)] at hflip
  rw [incCoarseX, setCoarseX_eq]
  split
  next => exact hflip
  next hx => exact add_one_eq_replaceField hx

/-- R171: fine Y counts, and its wrap counts coarse Y: from row 29 to 0 with bit 11 flipped, else modulo 32. -/
theorem incFineY_eq (v : LoopyAddr) :
    incFineY v =
      if fineY v = 7#3 then
        if coarseY v = 29#5 then
          replaceField 5 (replaceField 11 (replaceField 12 v 0#3) (BitVec.ofBool !v.getLsbD 11)) 0#5
        else replaceField 5 (replaceField 12 v 0#3) (coarseY v + 1#5)
      else replaceField 12 v (fineY v + 1#3) := by
  have hlast : ∀ row : BitVec 3, row < 7#3 ↔ ¬ row = 7#3 := by decide
  have hkept : coarseY (replaceField 12 v 0#3) = coarseY v := extractLsb'_replaceField_other (by decide) (by decide)
  have hflip := xor_twoPow_eq_replaceField (pos := 11) (by decide) (replaceField 12 v 0#3)
  rw [getLsbD_replaceField (by decide)] at hflip
  simp only [incFineY, hlast, ite_not, setFineY_eq, setCoarseY_eq, hkept, add_row_eq_replaceField]
  split_ifs with hy hwrap hbottom
  · exact congrArg (replaceField 5 · 0#5) hflip
  · rw [hbottom]
    rfl
  · rfl
  · rfl

/-- Settles O32: each increment replaces the fields it counts or flips, and the bits beside them are kept. -/
theorem scrollIncrements : Obligations.ScrollIncrements := by
  intro v
  constructor
  · rw [incCoarseX_eq, coarseX]
    split <;>
      simp (disch := decide) [getLsbD_replaceField, extractLsb'_replaceField_same, extractLsb'_replaceField_other,
        -BitVec.getLsbD_eq_getElem, *]
  · rw [incFineY_eq, fineY, coarseY]
    split_ifs <;>
      simp (disch := decide) [getLsbD_replaceField, extractLsb'_replaceField_same, extractLsb'_replaceField_other,
        -BitVec.getLsbD_eq_getElem, *]

theorem getLsbD_copyHorizontal (v t : LoopyAddr) {k : Nat} (hk : k < 15) :
    (copyHorizontal v t).getLsbD k = if k ≤ 4 ∨ k = 10 then t.getLsbD k else v.getLsbD k := by
  have hmask : (0x041F#15).getLsbD k = decide (k ≤ 4 ∨ k = 10) := by
    revert k
    decide
  rw [copyHorizontal, BitVec.getLsbD_or, BitVec.getLsbD_and, BitVec.getLsbD_and, BitVec.getLsbD_not, hmask]
  by_cases hcopied : k ≤ 4 ∨ k = 10 <;> simp [hcopied, hk]

theorem getLsbD_copyVertical (v t : LoopyAddr) {k : Nat} (hk : k < 15) :
    (copyVertical v t).getLsbD k = if k ≤ 4 ∨ k = 10 then v.getLsbD k else t.getLsbD k := by
  have hmask : (0x7BE0#15).getLsbD k = !decide (k ≤ 4 ∨ k = 10) := by
    revert k
    decide
  rw [copyVertical, BitVec.getLsbD_or, BitVec.getLsbD_and, BitVec.getLsbD_and, BitVec.getLsbD_not, hmask]
  by_cases hkept : k ≤ 4 ∨ k = 10 <;> simp [hkept, hk]

/-- Settles O33: the two masks split the 15 bits between them. -/
theorem scrollCopies : Obligations.ScrollCopies :=
  fun v t _ hk => ⟨getLsbD_copyHorizontal v t hk, getLsbD_copyVertical v t hk⟩

end Sys2Proof.Machine
end

section
/-! PROOFS. The addresses and operands of the background as fields set side by side (R175 to R180), and the statement of
their numbers. -/

namespace Sys2Proof.Machine

theorem nametableAddr_fields (v : LoopyAddr) : nametableAddr v = 2#2 ++ v.extractLsb' 0 12 := by
  apply BitVec.eq_of_getLsbD_eq
  intro i hi
  simp only [BitVec.getLsbD_append]
  interval_cases i <;> simp [nametableAddr]

theorem attributeAddr_fields (v : LoopyAddr) :
    attributeAddr v = 2#2 ++ v.extractLsb' 10 2 ++ 15#4 ++ v.extractLsb' 7 3 ++ v.extractLsb' 2 3 := by
  apply BitVec.eq_of_getLsbD_eq
  intro i hi
  simp only [BitVec.getLsbD_append]
  interval_cases i <;> simp [attributeAddr]

theorem bgPatternBase_fields (c : Byte) : bgPatternBase c = 0#1 ++ BitVec.ofBool (c.getLsbD 4) ++ 0#12 := by
  rw [bgPatternBase]
  cases c.getLsbD 4 <;> rfl

theorem patternAddr_fields (half : BitVec 1) (tile : Byte) (row : BitVec 3) :
    patternAddr (0#1 ++ half ++ 0#12) tile row = 0#1 ++ half ++ tile ++ 0#1 ++ row := by
  apply BitVec.eq_of_getLsbD_eq
  intro i hi
  simp only [patternAddr, BitVec.getLsbD_or, BitVec.getLsbD_append]
  interval_cases i <;> simp

theorem highPlane_fields (half : BitVec 1) (tile : Byte) (row : BitVec 3) :
    highPlane (0#1 ++ half ++ tile ++ 0#1 ++ row) = 0#1 ++ half ++ tile ++ 1#1 ++ row := by
  apply BitVec.eq_of_getLsbD_eq
  intro i hi
  simp only [highPlane, BitVec.getLsbD_or, BitVec.getLsbD_append]
  interval_cases i <;> simp

/-- R175: the nametable address as a number. -/
theorem nametableAddr_toNat (v : LoopyAddr) : (nametableAddr v).toNat = 0x2000 + v.toNat % 0x1000 := by
  rw [nametableAddr_fields, toNat_append_eq_add]
  rfl

/-- R176: the attribute address as a number, by table and by blocks of 4 rows and 4 columns. -/
theorem attributeAddr_toNat (v : LoopyAddr) :
    (attributeAddr v).toNat = 0x23C0 + 0x400 * (v.extractLsb' 10 2).toNat + 8 * ((v.extractLsb' 5 5).toNat / 4) +
      (v.extractLsb' 0 5).toNat / 4 := by
  simp only [attributeAddr_fields, toNat_append_eq_add, BitVec.extractLsb'_toNat, Nat.shiftRight_eq_div_pow,
    BitVec.toNat_ofNat]
  omega

/-- R61, R177: the pattern-table half that CTRL selects, as a number. -/
theorem ite_tableHalf_eq (b : Bool) : (if b = true then 0x1000 else 0) = 0x1000 * b.toNat := by cases b <;> rfl

/-- Settles O37: the numbers of the fields set side by side. -/
theorem fetchAddresses : Obligations.FetchAddresses := by
  rintro v c tile cx cy row rfl rfl rfl
  refine ⟨nametableAddr_toNat v, attributeAddr_toNat v, ?_, ?_⟩
  · rw [bgPatternBase_fields, patternAddr_fields, ite_tableHalf_eq]
    simp only [toNat_append_eq_add, BitVec.toNat_ofBool, BitVec.toNat_ofNat, fineY]
    omega
  · change (highPlane _).toNat = _
    rw [bgPatternBase_fields, patternAddr_fields, highPlane_fields, ite_tableHalf_eq]
    simp only [toNat_append_eq_add, BitVec.toNat_ofBool, BitVec.toNat_ofNat, fineY]
    omega

theorem attrShift_fields (v : LoopyAddr) :
    attrShift v = 0#2 ++ (coarseY v).extractLsb' 1 1 ++ (coarseX v).extractLsb' 1 1 ++ 0#1 := by
  apply BitVec.eq_of_getLsbD_eq
  intro i hi
  simp only [BitVec.getLsbD_append]
  interval_cases i <;> simp [attrShift]

/-- R180: the quadrant's shift as a number. -/
theorem attrShift_toNat (v : LoopyAddr) :
    (attrShift v).toNat = 4 * ((coarseY v).toNat / 2 % 2) + 2 * ((coarseX v).toNat / 2 % 2) := by
  simp only [attrShift_fields, toNat_append_eq_add, BitVec.extractLsb'_toNat, Nat.shiftRight_eq_div_pow,
    BitVec.toNat_ofNat]
  omega

theorem loadLow_eq_append (r : BitVec 16) (b : Byte) : loadLow r b = r.extractLsb' 8 8 ++ b := by
  apply BitVec.eq_of_getLsbD_eq
  intro i hi
  simp only [BitVec.getLsbD_append]
  interval_cases i <;> simp [loadLow]

end Sys2Proof.Machine
end

section
/-! PROOFS. The background step of a TICK (R174 to R187, R189): the scroll address, the fetches and the shift registers by
the dot reached, and the three statements they settle. -/

namespace Sys2Proof.Machine

variable {s : State}

theorem tickState_of_active (hactive : activeLine (tickState s) = true) :
    tickState s = { spriteDot (backgroundDot (beforeRender s)) with
      result := .bit (spriteDot (backgroundDot (beforeRender s))).oddFrame } := by
  rw [activeLine_tickState] at hactive
  rw [tickState_eq, renderDot, if_pos hactive]

/-! The scroll address (R184 to R187). -/

theorem fetchStep_v_of_not_last {k : Nat} (hk : k ≠ 7) (s : State) : (fetchStep k s).v = s.v := by
  unfold fetchStep
  split
  · rw [fetchNametable, memRead_eq]
  · rw [fetchAttribute, memRead_eq]
  · rw [fetchPatternLow, memRead_eq]
  · rw [fetchPatternHigh, memRead_eq]
  · exact absurd rfl hk
  · rfl

/-- R184: the last step of a tile group falls on the multiples of 8. -/
theorem bgFetchDot_v (s : State) :
    (bgFetchDot s).v =
      if s.dot % 8 = 0 ∧ ((8 ≤ s.dot ∧ s.dot ≤ 256) ∨ (328 ≤ s.dot ∧ s.dot ≤ 336)) then incCoarseX s.v else s.v := by
  unfold bgFetchDot
  split
  next hdots =>
    rw [inFetchDots_iff] at hdots
    by_cases hlast : s.dot % 8 = 0
    · have hstep : (s.dot - 1) % 8 = 7 := by omega
      rw [hstep, if_pos (by omega)]
      rfl
    · rw [if_neg (by omega)]
      exact fetchStep_v_of_not_last (by omega) _
  next hdots =>
    rw [inFetchDots_iff] at hdots
    rw [if_neg (by omega)]

/-- R185 to R187: no two of the fixed-dot changes of `v` fall on one dot. -/
theorem fixedDotsV_eq (s : State) :
    fixedDotsV s = if s.dot = 256 then incFineY s.v else if s.dot = 257 then copyHorizontal s.v s.t
      else if s.scanline = preRender s ∧ 280 ≤ s.dot ∧ s.dot ≤ 304 then copyVertical s.v s.t else s.v := by
  unfold fixedDotsV
  by_cases hrow : s.dot = 256
  · simp [hrow]
  · by_cases hline : s.dot = 257 <;> simp [hrow, hline]

/-- R184 to R187, R189: `v` after the background step of a dot. Only dot 256 has two changes. -/
theorem backgroundDot_v (s : State) :
    (backgroundDot s).v = if s.dot = 256 then incFineY (incCoarseX s.v) else if s.dot = 257 then copyHorizontal s.v s.t
      else if s.scanline = preRender s ∧ 280 ≤ s.dot ∧ s.dot ≤ 304 then copyVertical s.v s.t
      else if s.dot % 8 = 0 ∧ ((8 ≤ s.dot ∧ s.dot ≤ 256) ∨ (328 ≤ s.dot ∧ s.dot ≤ 336)) then incCoarseX s.v
      else s.v := by
  have hfixed : (backgroundDot s).v = fixedDotsV (bgFetchDot s) := by
    unfold backgroundDot bgFixedDots
    simp only [dummyNametableRead_eq]
    split <;> rfl
  have hdot : (bgFetchDot s).dot = s.dot := by rw [bgFetchDot_frame]
  have hline : (bgFetchDot s).scanline = s.scanline := by rw [bgFetchDot_frame]
  have ht : (bgFetchDot s).t = s.t := by rw [bgFetchDot_frame]
  have hpre : preRender (bgFetchDot s) = preRender s := by
    rw [bgFetchDot_frame]
    rfl
  rw [hfixed, fixedDotsV_eq, hdot, hline, ht, hpre, bgFetchDot_v]
  by_cases hrow : s.dot = 256
  · simp [hrow]
  by_cases hcopy : s.dot = 257
  · simp [hcopy]
  rw [if_neg hrow, if_neg hcopy, if_neg hrow, if_neg hcopy]
  refine if_ctx_congr Iff.rfl (fun hvertical => ?_) fun _ => rfl
  rw [if_neg (by omega)]

theorem tickState_v_of_active (hactive : activeLine (tickState s) = true) :
    (tickState s).v =
      if (tickState s).dot = 256 then incFineY (incCoarseX s.v)
      else if (tickState s).dot = 257 then copyHorizontal s.v s.t
      else if (tickState s).scanline = preRender s ∧ 280 ≤ (tickState s).dot ∧ (tickState s).dot ≤ 304 then
        copyVertical s.v s.t
      else if (tickState s).dot % 8 = 0 ∧
        ((8 ≤ (tickState s).dot ∧ (tickState s).dot ≤ 256) ∨ (328 ≤ (tickState s).dot ∧ (tickState s).dot ≤ 336)) then
        incCoarseX s.v
      else s.v := by
  have ht : (beforeRender s).t = s.t := by rw [beforeRender_frame]
  have hpre : preRender (beforeRender s) = preRender s := by rw [preRender, beforeRender_params, preRender]
  have hv := backgroundDot_v (beforeRender s)
  rw [beforeRender_v, ht, hpre, beforeRender_dot, beforeRender_scanline, ← tickState_dot, ← tickState_scanline] at hv
  rw [← hv, tickState_of_active hactive, spriteDot_frame]

/-- Settles O34: the clauses are the branches of `v` after the background step, and off active lines there is none. -/
theorem scrollAddressOfTick : Obligations.ScrollAddressOfTick := by
  intro s
  refine ⟨tickState s, rfl, fun hoff => ?_, fun hactive => ?_⟩
  · rw [tickState_of_inactive hoff]
    exact beforeRender_v s
  · rw [tickState_v_of_active hactive]
    refine ⟨fun hdot => ?_, fun hmul hdots => ?_, fun hdot => ?_, fun hline hlo hhi => ?_,
      fun hrow hcopy hvertical hmul => ?_⟩
    · rw [if_pos hdot]
    · rw [if_neg (by omega), if_neg (by omega), if_neg (by omega), if_pos (by omega)]
    · rw [if_neg (by omega), if_pos hdot]
    · rw [if_neg (by omega), if_neg (by omega), if_pos ⟨hline, hlo, hhi⟩]
    · rw [if_neg hrow, if_neg hcopy, if_neg hvertical, if_neg (by omega)]

/-! The fetch latches and the shift registers (R174 to R182). -/

/-- The fetch latches and the shift registers of `t` are those of `s`. -/
def SameTile (s t : State) : Prop :=
  (t.ntLatch = s.ntLatch ∧ t.atLatch = s.atLatch ∧ t.ptLoLatch = s.ptLoLatch ∧ t.ptHiLatch = s.ptHiLatch) ∧
    t.bgPatLo = s.bgPatLo ∧ t.bgPatHi = s.bgPatHi ∧ t.bgAttrLo = s.bgAttrLo ∧ t.bgAttrHi = s.bgAttrHi

theorem beforeRender_sameTile (s : State) : SameTile s (beforeRender s) := by
  rw [beforeRender_frame]
  exact ⟨⟨rfl, rfl, rfl, rfl⟩, rfl, rfl, rfl, rfl⟩

theorem backgroundDot_sameTile (s : State) : SameTile (bgFetchDot s) (backgroundDot s) := by
  rw [SameTile, backgroundDot, bgFixedDots_frame]
  simp only [and_self]

/-- After the shift and fetch step of an active line nothing in the TICK writes these fields (R150). -/
theorem tickState_sameTile_of_active (hactive : activeLine (tickState s) = true) :
    SameTile (bgFetchDot (beforeRender s)) (tickState s) := by
  rw [SameTile, tickState_of_active hactive, spriteDot_frame]
  dsimp only
  exact backgroundDot_sameTile (beforeRender s)

theorem tickState_sameTile_of_fetch (hactive : activeLine (tickState s) = true)
    (hdots : inFetchDots (tickState s).dot = true) :
    SameTile (fetchStep (((tickState s).dot - 1) % 8) (shiftRegisters (beforeRender s))) (tickState s) := by
  have hsame := tickState_sameTile_of_active hactive
  rw [tickState_dot, ← beforeRender_dot] at hdots ⊢
  rwa [bgFetchDot, if_pos hdots] at hsame

theorem tickState_sameTile_of_no_fetch
    (hoff : ¬ (activeLine (tickState s) = true ∧ inFetchDots (tickState s).dot = true)) :
    SameTile (beforeRender s) (tickState s) := by
  by_cases hactive : activeLine (tickState s) = true
  · have hdots : ¬ inFetchDots (beforeRender s).dot = true := by
      rw [beforeRender_dot, ← tickState_dot]
      exact fun hdots => hoff ⟨hactive, hdots⟩
    have hsame := tickState_sameTile_of_active hactive
    rwa [bgFetchDot, if_neg hdots] at hsame
  · rw [tickState_of_inactive (Bool.eq_false_iff.2 hactive)]
    exact ⟨⟨rfl, rfl, rfl, rfl⟩, rfl, rfl, rfl, rfl⟩

/-! The fetches (R174 to R178). -/

theorem busByte_of_ntAddr {a : BusAddr} (hlo : 0x2000 ≤ a.toNat) (hhi : a.toNat < 0x3000) (s : State) :
    busByte a s = ntRead a s :=
  busByte_of_nametable ((above_pattern_iff a).2 hlo) ((below_palette_iff a).2 (by omega))

theorem busByte_nametableAddr (v : LoopyAddr) (s : State) :
    busByte (nametableAddr v) s = ntRead (nametableAddr v) s := by
  have haddr := nametableAddr_toNat v
  exact busByte_of_ntAddr (by omega) (by omega) s

theorem busByte_attributeAddr (v : LoopyAddr) (s : State) :
    busByte (attributeAddr v) s = ntRead (attributeAddr v) s := by
  have haddr := attributeAddr_toNat v
  exact busByte_of_ntAddr (by omega) (by omega) s

theorem ntRead_beforeRender (a : BusAddr) (s : State) : ntRead a (beforeRender s) = ntRead a s := by
  rw [beforeRender_frame]
  rfl

theorem bgPatternAddr_beforeRender (s : State) : bgPatternAddr (beforeRender s) = bgPatternAddr s := by
  rw [beforeRender_frame]
  rfl

/-- R174 to R178: the shift before a fetch changes neither its address nor the byte read there. -/
theorem fetchStep_shiftRegisters_latches (s : State) :
    (fetchStep 0 (shiftRegisters s)).ntLatch = busByte (nametableAddr s.v) s ∧
      (fetchStep 2 (shiftRegisters s)).atLatch = busByte (attributeAddr s.v) s ∧
      (fetchStep 4 (shiftRegisters s)).ptLoLatch = busByte (bgPatternAddr s) s ∧
      (fetchStep 6 (shiftRegisters s)).ptHiLatch = busByte (highPlane (bgPatternAddr s)) s :=
  ⟨memRead_byte _ _, memRead_byte _ _, memRead_byte _ _, memRead_byte _ _⟩

/-- The byte a fetch latches is the one its address reads when the rendering step begins. -/
theorem tickState_latches_of_fetch (hactive : activeLine (tickState s) = true)
    (hdots : inFetchDots (tickState s).dot = true) :
    (((tickState s).dot - 1) % 8 = 0 → (tickState s).ntLatch = busByte (nametableAddr s.v) (beforeRender s)) ∧
      (((tickState s).dot - 1) % 8 = 2 → (tickState s).atLatch = busByte (attributeAddr s.v) (beforeRender s)) ∧
      (((tickState s).dot - 1) % 8 = 4 → (tickState s).ptLoLatch = busByte (bgPatternAddr s) (beforeRender s)) ∧
      (((tickState s).dot - 1) % 8 = 6 →
        (tickState s).ptHiLatch = busByte (highPlane (bgPatternAddr s)) (beforeRender s)) := by
  obtain ⟨⟨hnt, hat, hlo, hhi⟩, -⟩ := tickState_sameTile_of_fetch hactive hdots
  obtain ⟨hstep0, hstep2, hstep4, hstep6⟩ := fetchStep_shiftRegisters_latches (beforeRender s)
  rw [beforeRender_v] at hstep0 hstep2
  rw [bgPatternAddr_beforeRender] at hstep4 hstep6
  exact ⟨fun hk => by rw [hnt, hk, hstep0], fun hk => by rw [hat, hk, hstep2], fun hk => by rw [hlo, hk, hstep4],
    fun hk => by rw [hhi, hk, hstep6]⟩

theorem tickState_events_of_fetch {a : BusAddr} (hactive : activeLine (tickState s) = true)
    (hdots : inFetchDots (tickState s).dot = true) (haddr : tileFetchAddr (((tickState s).dot - 1) % 8) s = some a) :
    (tickState s).events = readEvents a (beforeRender s) := by
  rw [activeLine_tickState] at hactive
  rw [tickState_dot, ← beforeRender_dot] at hdots haddr
  rw [(tickState_busWork s).2, renderAccess, if_pos hactive, if_pos hdots, tileFetchAddr_beforeRender, haddr,
    Option.elim_some]

/-- R71: a pattern read with a mapper is the newest call, and holds the byte it answers. -/
theorem readEvents_head_of_pattern {a : BusAddr} (hlow : a ≤ 0x1FFF#14) (hmapper : s.params.mapperAttached = true) :
    (readEvents a s).head? = some (.readChr a (busByte a s)) := by
  rw [readEvents, if_pos ⟨hlow, hmapper⟩, List.head?_cons]

theorem chrFallback_beforeRender (s : State) : (beforeRender s).chrFallback = s.chrFallback := by
  rw [beforeRender_frame]

/-- Settles O35: the byte latched is the one read at the fetch's address, in the range of that address. -/
theorem backgroundFetches : Obligations.BackgroundFetches := by
  rintro s pattern rfl
  refine ⟨tickState s, rfl, fun ⟨hactive, hrange⟩ => ?_⟩
  have hdots := (inFetchDots_iff _).2 hrange
  have hmapped : (beforeRender s).params.mapperAttached = s.params.mapperAttached := by rw [beforeRender_params]
  obtain ⟨hnt, hat, hlo, hhi⟩ := tickState_latches_of_fetch hactive hdots
  have hlow := bgPatternAddr_low s
  have hhigh := highPlane_low hlow
  refine ⟨fun hk => ?_, fun hk => ?_, fun hk hmapper => ?_, fun hk hmapper => ?_, fun hk hmapper => ?_,
    fun hk hmapper => ?_⟩
  · rw [hnt hk, busByte_nametableAddr, ntRead_beforeRender]
  · rw [hat hk, busByte_attributeAddr, ntRead_beforeRender]
  · rw [hlo hk, busByte_of_fallback hlow (hmapped.trans hmapper), chrFallback_beforeRender]
    rfl
  · rw [hhi hk, busByte_of_fallback hhigh (hmapped.trans hmapper), chrFallback_beforeRender]
    rfl
  · rw [hlo hk, tickState_events_of_fetch hactive hdots (by rw [hk]; rfl)]
    exact readEvents_head_of_pattern hlow (hmapped.trans hmapper)
  · rw [hhi hk, tickState_events_of_fetch hactive hdots (by rw [hk]; rfl)]
    exact readEvents_head_of_pattern hhigh (hmapped.trans hmapper)

/-! The shift registers (R179 to R182). -/

/-- R174, R181: before its last step a tile group only shifts. -/
theorem fetchStep_shiftRegisters_of_not_last {k : Nat} (hk : k ≠ 7) (s : State) :
    (fetchStep k (shiftRegisters s)).bgPatLo = s.bgPatLo <<< 1 ∧
      (fetchStep k (shiftRegisters s)).bgPatHi = s.bgPatHi <<< 1 ∧
      (fetchStep k (shiftRegisters s)).bgAttrLo = s.bgAttrLo <<< 1 ∧
      (fetchStep k (shiftRegisters s)).bgAttrHi = s.bgAttrHi <<< 1 := by
  unfold fetchStep
  split
  · simp [fetchNametable, memRead_eq, shiftRegisters]
  · simp [fetchAttribute, memRead_eq, shiftRegisters]
  · simp [fetchPatternLow, memRead_eq, shiftRegisters]
  · simp [fetchPatternHigh, memRead_eq, shiftRegisters]
  · exact absurd rfl hk
  · exact ⟨rfl, rfl, rfl, rfl⟩

/-- R174, R179, R181: the last step of a tile group loads the low halves of the shifted registers. -/
theorem fetchStep_shiftRegisters_of_last (s : State) :
    (fetchStep 7 (shiftRegisters s)).bgPatLo = (s.bgPatLo <<< 1).extractLsb' 8 8 ++ s.ptLoLatch ∧
      (fetchStep 7 (shiftRegisters s)).bgPatHi = (s.bgPatHi <<< 1).extractLsb' 8 8 ++ s.ptHiLatch ∧
      (fetchStep 7 (shiftRegisters s)).bgAttrLo =
        (s.bgAttrLo <<< 1).extractLsb' 8 8 ++ eightCopies ((tilePalette s).getLsbD 0) ∧
      (fetchStep 7 (shiftRegisters s)).bgAttrHi =
        (s.bgAttrHi <<< 1).extractLsb' 8 8 ++ eightCopies ((tilePalette s).getLsbD 1) :=
  ⟨loadLow_eq_append _ _, loadLow_eq_append _ _, loadLow_eq_append _ _, loadLow_eq_append _ _⟩

/-- R179, R180: the palette number is the quadrant's two bits of the attribute latch. -/
theorem tilePalette_eq (s : State) :
    tilePalette s = (s.atLatch >>> (4 * ((s.v.extractLsb' 5 5).toNat / 2 % 2) +
      2 * ((s.v.extractLsb' 0 5).toNat / 2 % 2))).extractLsb' 0 2 := by
  rw [tilePalette, attrShift_toNat, BitVec.setWidth_eq_extractLsb' (by decide)]
  rfl

theorem tilePalette_beforeRender (s : State) : tilePalette (beforeRender s) = tilePalette s := by
  rw [beforeRender_frame]
  rfl

/-- Settles O38: the fetch dots shift, the last step of a tile group loads the shifted registers, and no other part of a
TICK writes them. -/
theorem shiftAndLoad : Obligations.ShiftAndLoad := by
  rintro s sh pal rfl rfl
  rw [← tilePalette_eq, ← tilePalette_beforeRender]
  refine ⟨tickState s, rfl, ?_⟩
  obtain ⟨⟨-, -, hptLo, hptHi⟩, hpatLo, hpatHi, hattrLo, hattrHi⟩ := beforeRender_sameTile s
  rw [← inFetchDots_iff, ← hptLo, ← hptHi, ← hpatLo, ← hpatHi, ← hattrLo, ← hattrHi]
  refine ⟨fun hoff => (tickState_sameTile_of_no_fetch hoff).2, fun ⟨hactive, hdots⟩ => ?_⟩
  obtain ⟨-, hlo, hhi, halo, hahi⟩ := tickState_sameTile_of_fetch hactive hdots
  rw [inFetchDots_iff] at hdots
  rw [hlo, hhi, halo, hahi]
  refine ⟨fun hstep => ?_, fun hlast => ?_⟩
  · exact fetchStep_shiftRegisters_of_not_last (by omega) _
  · have hstep : ((tickState s).dot - 1) % 8 = 7 := by omega
    rw [hstep]
    exact fetchStep_shiftRegisters_of_last _

end Sys2Proof.Machine
end

section
/-! PROOFS. The sprite pixel (R220 to R222, R243): the pixel of one slot as numbers, the first opaque slot of a buffer, and
the two statements they settle; and the bit reversal of R216. -/

namespace Sys2Proof.Machine

/-- Settles O46: the model reverses the byte as a whole. -/
theorem bitReversal : Obligations.BitReversal := by
  intro b j hj
  rw [rev8, BitVec.getLsbD_reverse, BitVec.getMsbD_eq_getLsbD]
  simp [hj]

/-! The pixel of one slot. -/

/-- The signed distance of column `sx` from a slot's left edge (R220). -/
def slotColumn (offset sx : Nat) (sl : SpriteSlot) : Int := (sx : Int) - ((sl.xpos.toNat : Int) - (offset : Int))

/-- The pixel number of a slot's two planes at a column from its left edge (R220). -/
def slotPattern (col : Nat) (sl : SpriteSlot) : BitVec 2 :=
  BitVec.ofBool (sl.patHi.getLsbD (7 - col)) ++ BitVec.ofBool (sl.patLo.getLsbD (7 - col))

theorem slotPattern_toNat (col : Nat) (sl : SpriteSlot) :
    (slotPattern col sl).toNat = 2 * (sl.patHi.getLsbD (7 - col)).toNat + (sl.patLo.getLsbD (7 - col)).toNat := by
  rw [slotPattern, toNat_append_eq_add, BitVec.toNat_ofBool, BitVec.toNat_ofBool, Nat.mul_comm, pow_one]

variable {offset sx i : Nat} {sl : SpriteSlot}

/-- R220: outside a slot's eight columns, and where both planes are 0, the slot gives no pixel. -/
theorem slotPixel_eq_none
    (h : ¬ (0 ≤ slotColumn offset sx sl ∧ slotColumn offset sx sl ≤ 7) ∨
      slotPattern (slotColumn offset sx sl).toNat sl = 0) : slotPixel offset sx i sl = none := by
  by_cases hcol : 0 ≤ slotColumn offset sx sl ∧ slotColumn offset sx sl ≤ 7
  · exact (if_pos hcol).trans (if_pos (h.resolve_left (absurd hcol)))
  · exact if_neg hcol

/-- R220, R221: elsewhere the slot gives the pixel of its palette and pattern. -/
theorem slotPixel_eq_some (hcol : 0 ≤ slotColumn offset sx sl ∧ slotColumn offset sx sl ≤ 7)
    (hpattern : slotPattern (slotColumn offset sx sl).toNat sl ≠ 0) :
    slotPixel offset sx i sl = some {
      index := 16#5 + 4#5 * (spritePalette sl.attr).setWidth 5 +
        (slotPattern (slotColumn offset sx sl).toNat sl).setWidth 5
      slot := i
      fg := spriteInFront sl.attr } :=
  (if_pos hcol).trans (if_neg hpattern)

/-- R101: the palette of an attribute byte as a number. -/
theorem spritePalette_toNat (attr : Byte) : (spritePalette attr).toNat = attr.toNat % 4 := by
  simp [spritePalette]

/-- R220: no carry leaves the five bits of a sprite's palette index. -/
theorem spriteIndex_toNat (pal p : BitVec 2) :
    (16#5 + 4#5 * pal.setWidth 5 + p.setWidth 5).toNat = 16 + 4 * pal.toNat + p.toNat := by
  simp only [BitVec.toNat_add, BitVec.toNat_mul, BitVec.toNat_setWidth, BitVec.toNat_ofNat]
  omega

/-- Settles O29: `p` is the number of the slot's pattern at that column. -/
theorem slotPixelFormula : Obligations.SlotPixelFormula := by
  rintro offset sx i p sl col hcol hp
  obtain rfl : col = slotColumn offset sx sl := hcol
  rw [← slotPattern_toNat] at hp
  have hzero : slotPattern (slotColumn offset sx sl).toNat sl = 0 ↔ p = 0 := by
    rw [hp, ← BitVec.toNat_inj]
    rfl
  refine ⟨fun hnone => slotPixel_eq_none ?_, fun ⟨hlo, hhi, hopaque⟩ => ?_⟩
  · rw [hzero]
    omega
  · refine ⟨_, slotPixel_eq_some ⟨hlo, hhi⟩ (hzero.not.2 hopaque), rfl, ?_, ?_⟩
    · rw [spriteIndex_toNat, spritePalette_toNat, hp]
    · exact iff_of_eq (Bool.not_eq_true' _)

/-! The first opaque slot of a buffer. -/

/-- R220: a pixel bears the number of its slot. -/
theorem slot_of_slotPixel {p : SpritePixel} (h : slotPixel offset sx i sl = some p) : p.slot = i := by
  by_cases hnone : ¬ (0 ≤ slotColumn offset sx sl ∧ slotColumn offset sx sl ≤ 7) ∨
      slotPattern (slotColumn offset sx sl).toNat sl = 0
  · rw [slotPixel_eq_none hnone] at h
    cases h
  · rw [not_or, not_not] at hnone
    obtain ⟨hcol, hpattern⟩ := hnone
    rw [slotPixel_eq_some hcol hpattern] at h
    cases h
    rfl

variable {slots : List SpriteSlot}

theorem firstOpaque_cons_of_some {p : SpritePixel} (h : slotPixel offset sx i sl = some p) :
    firstOpaque offset sx i (sl :: slots) = some p := by
  rw [firstOpaque, h]

theorem firstOpaque_cons_of_none (h : slotPixel offset sx i sl = none) :
    firstOpaque offset sx i (sl :: slots) = firstOpaque offset sx (i + 1) slots := by
  rw [firstOpaque, h]

/-- R220, R222: the pixel found is that of a slot of the list, and no slot before it is opaque. -/
theorem firstOpaque_eq_some {p : SpritePixel} (h : firstOpaque offset sx i slots = some p) :
    ∃ (k : Nat) (hk : k < slots.length), slotPixel offset sx (i + k) slots[k] = some p ∧
      ∀ (j : Nat) (hj : j < k), slotPixel offset sx (i + j) slots[j] = none := by
  induction slots generalizing i with
  | nil => cases h
  | cons sl rest ih =>
    match hpixel : slotPixel offset sx i sl with
    | some q =>
      rw [firstOpaque_cons_of_some hpixel] at h
      exact ⟨0, Nat.succ_pos _, hpixel.trans h, fun j hj => absurd hj (Nat.not_lt_zero j)⟩
    | none =>
      rw [firstOpaque_cons_of_none hpixel] at h
      obtain ⟨k, hk, hfound, hbefore⟩ := ih h
      rw [Nat.add_right_comm] at hfound
      refine ⟨k + 1, Nat.succ_lt_succ hk, hfound, fun j hj => ?_⟩
      cases j with
      | zero => exact hpixel
      | succ j => exact Nat.add_right_comm i 1 j ▸ hbefore j (Nat.lt_of_succ_lt_succ hj)

/-- R220: no pixel is found only when no slot of the list is opaque. -/
theorem firstOpaque_eq_none (h : firstOpaque offset sx i slots = none) (j : Nat) (hj : j < slots.length) :
    slotPixel offset sx (i + j) slots[j] = none := by
  induction slots generalizing i j with
  | nil => exact absurd hj (Nat.not_lt_zero j)
  | cons sl rest ih =>
    match hpixel : slotPixel offset sx i sl with
    | some q =>
      rw [firstOpaque_cons_of_some hpixel] at h
      cases h
    | none =>
      rw [firstOpaque_cons_of_none hpixel] at h
      cases j with
      | zero => exact hpixel
      | succ j => exact Nat.add_right_comm i 1 j ▸ ih h j (Nat.lt_of_succ_lt_succ hj)

/-- R243: sprites hidden, or clipped at this column. -/
theorem spritePixelGated_of_hidden {s : State} (h : s.mask.getLsbD 4 = false ∨ (s.mask.getLsbD 2 = false ∧ sx < 8)) :
    spritePixelGated sx s = none := by
  unfold spritePixelGated showSprites
  split
  next hshown =>
    obtain ⟨hleft, hcol⟩ := h.resolve_left (by simp [hshown])
    rw [spritePixel, showLeftSprites, hleft, decide_eq_true hcol]
    rfl
  next => rfl

/-- R220, R243: where sprites are shown the pixel is that of the used slots of the current buffer. -/
theorem spritePixelGated_of_shown {s : State} (h : s.mask.getLsbD 4 = true ∧ (s.mask.getLsbD 2 = true ∨ 8 ≤ sx)) :
    spritePixelGated sx s = firstOpaque s.params.spriteXOffset sx 0 (s.cur.slots.toList.take s.cur.count) := by
  obtain ⟨hshown, hleft⟩ := h
  have hunclipped : (!s.mask.getLsbD 2 && decide (sx < 8)) = false := by
    rcases hleft with hleft | hcol
    · simp [hleft]
    · simp [hcol]
  rw [spritePixelGated, showSprites, if_pos hshown, spritePixel, showLeftSprites, hunclipped]
  rfl

/-- Settles O28: the used slots of the buffer are the list scanned, in slot order. -/
theorem spritePixelIsFirstOpaque : Obligations.SpritePixelIsFirstOpaque := by
  intro s xp hcount
  have hlength : (s.cur.slots.toList.take s.cur.count).length = s.cur.count := by simpa using hcount
  have hslot (k : Nat) (hk : k < (s.cur.slots.toList.take s.cur.count).length) :
      (s.cur.slots.toList.take s.cur.count)[k] = s.cur.slots[k]'(by omega) := by simp
  refine ⟨spritePixelGated_of_hidden, fun hshown => ?_⟩
  rw [spritePixelGated_of_shown hshown]
  refine ⟨fun p hp => ?_, fun hnone j hj => ?_⟩
  · obtain ⟨k, hk, hfound, hbefore⟩ := firstOpaque_eq_some hp
    have hused : k < s.cur.count := hlength ▸ hk
    rw [Nat.zero_add, hslot] at hfound
    refine ⟨⟨k, hused.trans_le hcount⟩, (slot_of_slotPixel hfound).symm, hused, hfound, fun j hj => ?_⟩
    have hnone := hbefore j hj
    rwa [Nat.zero_add, hslot] at hnone
  · have hpixel := firstOpaque_eq_none hnone j (hlength.symm ▸ hj)
    rwa [Nat.zero_add, hslot] at hpixel

end Sys2Proof.Machine
end

section
/-! PROOFS. The row address of a sprite slot as a number (R212 to R215, R218), and its statement. -/

namespace Sys2Proof.Machine

/-- R212: a sprite's height is a power of two, so the mask keeps the remainder. -/
theorem rawRow_eq (scanline : Nat) (y c : Byte) :
    rawRow scanline y (spriteHeight c) = (((scanline : Int) - (y.toNat : Int)) % 256).toNat % spriteHeight c := by
  unfold rawRow spriteHeight
  split
  · exact Nat.and_two_pow_sub_one_eq_mod _ 4
  · exact Nat.and_two_pow_sub_one_eq_mod _ 3

theorem spriteHeight_pos (c : Byte) : 0 < spriteHeight c := by
  unfold spriteHeight
  split <;> decide

/-- R212: the row lies within the sprite, flipped or not. -/
theorem spriteRow_lt (scanline : Nat) (y attr c : Byte) :
    spriteRow scanline y attr (spriteHeight c) < spriteHeight c := by
  have hraw : rawRow scanline y (spriteHeight c) < spriteHeight c := by
    rw [rawRow_eq]
    exact Nat.mod_lt _ (spriteHeight_pos c)
  unfold spriteRow
  dsimp only
  split <;> omega

/-- R212: where the sprite covers the line, the row before the flip is the distance from its Y byte. -/
theorem rawRow_of_covered {scanline : Nat} {y c : Byte} (hlo : y.toNat ≤ scanline)
    (hhi : scanline < y.toNat + spriteHeight c) : rawRow scanline y (spriteHeight c) = scanline - y.toNat := by
  rw [rawRow_eq]
  have hheight : spriteHeight c ≤ 16 := by
    unfold spriteHeight
    split <;> decide
  rw [Nat.mod_eq_of_lt] <;> omega

/-- R213: the address in the table that CTRL selects, for 8 by 8 sprites. -/
theorem spriteTileAddr_toNat_of_8x8 {c : Byte} (tile : Byte) (row : Nat) (hheight : c.getLsbD 5 = false) :
    (spriteTileAddr c tile row).toNat = (if c.getLsbD 3 then 0x1000 else 0) + 16 * tile.toNat + row % 8 := by
  have hbase : spritePatternBase c = 0#1 ++ BitVec.ofBool (c.getLsbD 3) ++ 0#12 := by
    rw [spritePatternBase]
    cases c.getLsbD 3 <;> rfl
  rw [spriteTileAddr, if_neg (Bool.eq_false_iff.1 hheight), hbase, patternAddr_fields, ite_tableHalf_eq]
  simp only [toNat_append_eq_add, BitVec.toNat_ofBool, BitVec.toNat_ofNat]
  omega

/-- R215: the tile of an 8 by 16 sprite's row: the even tile of the pair above, the odd one below. -/
theorem tallTile_toNat (tile : Byte) {row : Nat} (hrow : row < 16) :
    ((tile &&& 0xFE#8) + (if row ≥ 8 then 1#8 else 0#8)).toNat = 2 * (tile.toNat / 2) + row / 8 := by
  have heven : tile &&& 0xFE#8 = tile.extractLsb' 1 7 ++ 0#1 := by
    apply BitVec.eq_of_getLsbD_eq
    intro i hi
    simp only [BitVec.getLsbD_append]
    interval_cases i <;> simp
  have htile := tile.isLt
  rw [heven, BitVec.toNat_add, toNat_append_eq_add, BitVec.extractLsb'_toNat, Nat.shiftRight_eq_div_pow]
  split <;> simp only [BitVec.toNat_ofNat] <;> omega

/-- R215: the tile byte selects the table and the pair of tiles, for 8 by 16 sprites. -/
theorem spriteTileAddr_toNat_of_8x16 {c : Byte} (tile : Byte) {row : Nat} (hheight : c.getLsbD 5 = true)
    (hrow : row < 16) :
    (spriteTileAddr c tile row).toNat =
      0x1000 * (tile.toNat % 2) + 16 * (2 * (tile.toNat / 2) + row / 8) + row % 8 := by
  have htable : (if tile.getLsbD 0 then 0x1000#14 else 0#14) = 0#1 ++ BitVec.ofBool (tile.getLsbD 0) ++ 0#12 := by
    cases tile.getLsbD 0 <;> rfl
  have hodd : (tile.getLsbD 0).toNat = tile.toNat % 2 := by
    rw [BitVec.getLsbD, Nat.testBit_zero]
    rcases Nat.mod_two_eq_zero_or_one tile.toNat with h | h <;> simp [h]
  rw [spriteTileAddr, if_pos hheight]
  dsimp only
  rw [htable, patternAddr_fields]
  simp only [toNat_append_eq_add, tallTile_toNat tile hrow, BitVec.toNat_ofBool, BitVec.toNat_ofNat, hodd]
  omega

/-- Settles O45: a used slot's address is its tile's at its row, and an unused slot's that of tile 0xFF at row 0. -/
theorem spriteRowAddress : Obligations.SpriteRowAddress := by
  rintro s i y tile attr h raw row rfl rfl rfl hh hraw hrow
  obtain rfl : h = spriteHeight s.ctrl := hh
  rw [← rawRow_eq] at hraw
  obtain rfl : row = spriteRow s.scanline (secRead (4 * i) s) (secRead (4 * i + 2) s) (spriteHeight s.ctrl) := by
    rw [hrow, hraw]
    rfl
  have hlt := spriteRow_lt s.scanline (secRead (4 * i) s) (secRead (4 * i + 2) s) s.ctrl
  unfold spriteRowAddr currentHeight
  refine ⟨fun ⟨hlo, hhi⟩ => hraw.trans (rawRow_of_covered hlo hhi), fun ⟨hused, hheight⟩ => ?_,
    fun ⟨hused, hheight⟩ => ?_, fun ⟨hempty, hheight⟩ => ?_, fun ⟨hempty, hheight⟩ => ?_⟩
  · have h8 : spriteHeight s.ctrl = 8 := if_neg (Bool.eq_false_iff.1 hheight)
    rw [if_pos hused, spriteTileAddr_toNat_of_8x8 _ _ hheight, Nat.mod_eq_of_lt (h8 ▸ hlt)]
  · have h16 : spriteHeight s.ctrl = 16 := if_pos hheight
    rw [if_pos hused, spriteTileAddr_toNat_of_8x16 _ hheight (h16 ▸ hlt)]
  · rw [if_neg hempty.not_gt, spriteTileAddr_toNat_of_8x8 _ _ hheight]
    rfl
  · rw [if_neg hempty.not_gt, spriteTileAddr_toNat_of_8x16 _ hheight (by decide)]
    rfl

end Sys2Proof.Machine
end

section
/-! PROOFS. Primary OAM and its address in a TICK (R223, R224): the corruption copy as one read, and its statement. -/

namespace Sys2Proof.Machine

variable {s : State}

/-! The corruption copy (R224). -/

/-- R48, R74: OAM keeps a byte of its own whole when it is stored at an index of the same place in an entry. -/
theorem oamKeeps_oamRead {i j : Byte} (h : OamInv s) (hplace : i.toNat % 4 = j.toNat % 4) :
    oamKeeps i (oamRead j s) = oamRead j s := by
  unfold oamKeeps
  split
  next hattr =>
    have hclear : oamRead j s &&& 0x1C#8 = 0 := h j (hplace ▸ hattr)
    calc oamRead j s &&& 0xE3#8
        = (oamRead j s &&& 0x1C#8) ||| (oamRead j s &&& 0xE3#8) := by
          rw [hclear]
          exact BitVec.zero_or.symm
      _ = oamRead j s &&& (0x1C#8 ||| 0xE3#8) := BitVec.and_or_distrib_left.symm
      _ = oamRead j s := BitVec.and_allOnes
  next => rfl

/-- R224: the source of the copy, `oamAddr & 0xF8`, as a number. -/
theorem corruptionSource_toNat (a : Byte) : (a &&& 0xF8#8).toNat = 8 * (a.toNat / 8) := by
  have hfields : a &&& 0xF8#8 = a.extractLsb' 3 5 ++ 0#3 := by
    apply BitVec.eq_of_getLsbD_eq
    intro i hi
    simp only [BitVec.getLsbD_append]
    interval_cases i <;> simp
  have ha := a.isLt
  rw [hfields, toNat_append_eq_add, BitVec.extractLsb'_toNat, Nat.shiftRight_eq_div_pow]
  simp only [BitVec.toNat_ofNat]
  omega

/-- R224: the copy reads only bytes it does not write, so after `n` bytes each is the source's of before the copy. -/
theorem oamRead_copyOamBytes {b : Byte} (h : OamInv s) (haligned : b.toNat % 8 = 0) (hb : 8 ≤ b.toNat) (k : Byte)
    {n : Nat} (hn : n ≤ 8) :
    oamRead k ((List.range n).foldl (fun s k => copyOamByte b k s) s) =
      if k.toNat < n then oamRead (b + k) s else oamRead k s := by
  induction n generalizing k with
  | zero => rfl
  | succ n ih =>
    have hdest : (BitVec.ofNat 8 n).toNat = n := Nat.mod_eq_of_lt (by omega)
    have hsource : (b + BitVec.ofNat 8 n).toNat = b.toNat + n := by
      rw [BitVec.toNat_add, hdest]
      omega
    have hkept : oamKeeps (BitVec.ofNat 8 n) (oamRead (b + BitVec.ofNat 8 n) s) = oamRead (b + BitVec.ofNat 8 n) s :=
      oamKeeps_oamRead h (by omega)
    have hread : oamRead (b + BitVec.ofNat 8 n) ((List.range n).foldl (fun s k => copyOamByte b k s) s) =
        oamRead (b + BitVec.ofNat 8 n) s := by
      rw [ih _ (by omega), if_neg (by omega)]
    rw [List.range_succ, List.foldl_append, List.foldl_cons, List.foldl_nil, copyOamByte, oamRead_oamWrite,
      hread, hkept, ih k (by omega)]
    by_cases hk : k = BitVec.ofNat 8 n
    · rw [if_pos hk, if_pos (by rw [hk]; omega), hk]
    · have hne : k.toNat ≠ n := fun heq => hk (BitVec.eq_of_toNat_eq (heq.trans hdest.symm))
      rw [if_neg hk]
      exact if_congr (by omega) rfl rfl

theorem oamRead_oamCorruptionCheck (h : OamInv s) (k : Byte) :
    oamRead k (oamCorruptionCheck s) =
      if 8 ≤ s.oamAddr.toNat ∧ k.toNat < 8 then oamRead ((s.oamAddr &&& 0xF8#8) + k) s else oamRead k s := by
  have hiff : s.oamAddr ≥ 8#8 ↔ 8 ≤ s.oamAddr.toNat := Iff.rfl
  have hsource := corruptionSource_toNat s.oamAddr
  unfold oamCorruptionCheck
  by_cases haddr : 8 ≤ s.oamAddr.toNat
  · rw [if_pos (hiff.2 haddr), oamRead_copyOamBytes h (by omega) (by omega) k le_rfl]
    simp only [haddr, true_and]
  · rw [if_neg (hiff.not.2 haddr), if_neg (by omega)]

/-! The OAM address effects of a dot (R223, R224). -/

theorem oamAddressDot_oamAddr (s : State) :
    (oamAddressDot s).oamAddr = if 257 ≤ s.dot ∧ s.dot ≤ 320 then 0#8 else s.oamAddr := by
  unfold oamAddressDot
  rw [oamCorruptionCheck_frame]
  dsimp only
  split <;> split <;> rfl

/-- R224: only dot 257 can have a corruption copy. -/
theorem oamAddressDot_oam (hdot : s.dot ≠ 257) : (oamAddressDot s).oam = s.oam := by
  unfold oamAddressDot
  rw [if_neg (c := s.scanline = preRender s ∧ s.dot = 257) (fun h => hdot h.2)]
  dsimp only
  split <;> rfl

theorem oamRead_oamAddressDot (h : OamInv s) (k : Byte) :
    oamRead k (oamAddressDot s) =
      if s.scanline = preRender s ∧ s.dot = 257 ∧ 8 ≤ s.oamAddr.toNat ∧ k.toNat < 8 then
        oamRead ((s.oamAddr &&& 0xF8#8) + k) s else oamRead k s := by
  have hread : oamRead k (oamAddressDot s) =
      oamRead k (if s.scanline = preRender s ∧ s.dot = 257 then oamCorruptionCheck s else s) := by
    rw [oamAddressDot]
    split_ifs <;> rfl
  rw [hread]
  by_cases hcheck : s.scanline = preRender s ∧ s.dot = 257
  · obtain ⟨hline, hdot⟩ := hcheck
    rw [if_pos ⟨hline, hdot⟩, oamRead_oamCorruptionCheck h]
    simp only [hline, hdot, true_and]
  · rw [if_neg hcheck, if_neg (fun ⟨hline, hdot, _⟩ => hcheck ⟨hline, hdot⟩)]

/-- After the OAM address effects the sprite step writes neither OAM nor its address (R200). -/
theorem spriteDot_oam (s : State) :
    (spriteDot s).oam = (oamAddressDot s).oam ∧ (spriteDot s).oamAddr = (oamAddressDot s).oamAddr := by
  unfold spriteDot
  dsimp only
  split
  · rw [spriteBufferDot_frame, evaluationDot_frame]
    exact ⟨rfl, rfl⟩
  · exact ⟨rfl, rfl⟩

/-! The OAM address effects of a TICK. -/

/-- The state the sprite step of a TICK starts from: after the background step (R150). -/
def beforeSprites (s : State) : State := backgroundDot (beforeRender s)

theorem beforeSprites_kept (s : State) :
    (beforeSprites s).scanline = (tickState s).scanline ∧ (beforeSprites s).dot = (tickState s).dot ∧
      preRender (beforeSprites s) = preRender s ∧ (beforeSprites s).oamAddr = s.oamAddr ∧
      (beforeSprites s).oam = s.oam := by
  rw [tickState_scanline, tickState_dot, beforeSprites, backgroundDot_frame, beforeRender_frame]
  exact ⟨rfl, rfl, rfl, rfl, rfl⟩

theorem tickState_oam_of_active (hactive : activeLine (tickState s) = true) :
    (tickState s).oam = (oamAddressDot (beforeSprites s)).oam ∧
      (tickState s).oamAddr = (oamAddressDot (beforeSprites s)).oamAddr := by
  rw [tickState_of_active hactive]
  dsimp only
  exact spriteDot_oam (beforeSprites s)

theorem tickState_oam_of_inactive (hactive : activeLine (tickState s) = false) :
    (tickState s).oam = s.oam ∧ (tickState s).oamAddr = s.oamAddr := by
  rw [tickState_of_inactive hactive, beforeRender_frame]
  exact ⟨rfl, rfl⟩

theorem tickState_oamAddr (s : State) :
    (tickState s).oamAddr =
      if activeLine (tickState s) = true ∧ 257 ≤ (tickState s).dot ∧ (tickState s).dot ≤ 320 then 0#8
        else s.oamAddr := by
  obtain ⟨-, hdot, -, haddr, -⟩ := beforeSprites_kept s
  cases hactive : activeLine (tickState s) with
  | true =>
    obtain ⟨-, hkept⟩ := tickState_oam_of_active hactive
    rw [hkept, oamAddressDot_oamAddr, hdot, haddr]
    simp only [true_and]
  | false =>
    obtain ⟨-, hkept⟩ := tickState_oam_of_inactive hactive
    simp [hkept]

theorem oamRead_tickState (h : OamInv s) (k : Byte) :
    oamRead k (tickState s) =
      if activeLine (tickState s) = true ∧ (tickState s).scanline = preRender s ∧ (tickState s).dot = 257 ∧
          8 ≤ s.oamAddr.toNat ∧ k.toNat < 8
        then oamRead ((s.oamAddr &&& 0xF8) + k) s else oamRead k s := by
  obtain ⟨hline, hdot, hpre, haddr, hoam⟩ := beforeSprites_kept s
  have hsame (j : Byte) : oamRead j (beforeSprites s) = oamRead j s := by rw [oamRead, hoam, oamRead]
  have hinv : OamInv (beforeSprites s) := fun i hi => by
    rw [hsame]
    exact h i hi
  cases hactive : activeLine (tickState s) with
  | true =>
    obtain ⟨hkept, -⟩ := tickState_oam_of_active hactive
    rw [oamRead, hkept, ← oamRead, oamRead_oamAddressDot hinv, hline, hdot, hpre, haddr, hsame, hsame]
    simp only [true_and]
    rfl
  | false =>
    obtain ⟨hkept, -⟩ := tickState_oam_of_inactive hactive
    simp [oamRead, hkept]

/-- Settles O39: an active line's OAM address effects are the only writers of OAM and its address in a TICK. -/
theorem oamAddressEffects : Obligations.OamAddressEffects := by
  intro s hinv
  refine ⟨tickState s, rfl, fun hdots => ?_, fun hdots => ?_, oamRead_tickState hinv⟩
  · rw [tickState_oamAddr, if_pos hdots]
    rfl
  · rw [tickState_oamAddr, if_neg hdots]

end Sys2Proof.Machine
end

section
/-! PROOFS. Evaluation in a TICK (R201 to R210): what the evaluation work of each dot reads and leaves, and the four
statements it settles. -/

namespace Sys2Proof.Machine

variable {s t : State}

/-! Secondary OAM and the range test (R49, R204). -/

theorem secRead_secWrite {i j : Nat} (hi : i < 32) (hj : j < 32) (b : Byte) (s : State) :
    secRead j (secWrite i b s) = if j = i then b else secRead j s := by
  rw [secRead, secWrite, Memory.read_write, Nat.mod_eq_of_lt hi, Nat.mod_eq_of_lt hj, secRead, Nat.mod_eq_of_lt hj]

theorem secRead_congr (h : t.secOam = s.secOam) (j : Nat) : secRead j t = secRead j s := by
  rw [secRead, h, secRead]

/-- R205: the copy of an entry fills the four bytes of its slot and leaves the other slots. -/
theorem secRead_copySprite {f j : Nat} (hf : f < 8) (hj : j < 32) (n : Nat) (s : State) :
    secRead j (copySprite n f s) = if j / 4 = f then oamByte n (j % 4) s else secRead j s := by
  rw [copySprite, secRead_secWrite (by omega) hj, secRead_secWrite (by omega) hj, secRead_secWrite (by omega) hj,
    secRead_secWrite (by omega) hj]
  by_cases hslot : j / 4 = f
  · obtain ⟨k, hk, rfl⟩ : ∃ k < 4, j = 4 * f + k := ⟨j % 4, by omega, by omega⟩
    rw [if_pos hslot, Nat.mul_add_mod, Nat.mod_eq_of_lt hk]
    interval_cases k <;> simp
  · rw [if_neg hslot, if_neg (by omega), if_neg (by omega), if_neg (by omega), if_neg (by omega)]

/-- R204: the signed test as a comparison of natural numbers. -/
theorem inRange_iff (scanline : Nat) (y : Byte) (h : Nat) :
    inRange scanline y h = true ↔ y.toNat ≤ scanline ∧ scanline < y.toNat + h := by
  rw [inRange, decide_eq_true_iff]
  omega

/-! The evaluation work by the dot (R201 to R203, R210). -/

theorem evaluationDot_of_start (hdot : s.dot = 0) : evaluationDot s = resetEvaluation s := if_pos hdot

theorem evaluationDot_of_clear (hlo : 1 ≤ s.dot) (hhi : s.dot ≤ 64) :
    evaluationDot s = if s.dot % 2 = 1 then secWrite ((s.dot - 1) / 2) 0xFF#8 s else s := by
  rw [evaluationDot, if_neg (by omega), if_neg (c := 65 ≤ _ ∧ _) (by omega), if_neg (c := _ = 256) (by omega)]
  simp only [hlo, hhi, true_and]

theorem evaluationDot_of_step (hlo : 65 ≤ s.dot) (hhi : s.dot ≤ 255) (hodd : s.dot % 2 = 1) :
    evaluationDot s = evaluationStep s := by
  rw [evaluationDot, if_neg (by omega), if_neg (by omega), if_pos ⟨hlo, hhi, hodd⟩]

theorem evaluationDot_of_finish (hdot : s.dot = 256) : evaluationDot s = finalizeEvaluation s := by
  rw [evaluationDot, if_neg (by omega), if_neg (by omega), if_neg (by omega), if_pos hdot]

theorem evaluationStep_of_normal (hn : s.evalN < 64) (hf : s.evalFound < 8) : evaluationStep s = normalStep s := by
  rw [evaluationStep, if_pos hn, if_pos hf]

theorem evaluationStep_of_buggy (hn : s.evalN < 64) (hf : s.evalFound = 8) : evaluationStep s = buggyStep s := by
  rw [evaluationStep, if_pos hn, if_neg (by omega), if_pos hf]

/-- R205: what a normal step does whether or not its entry is in range. -/
theorem normalStep_always (s : State) :
    (normalStep s).evalN = s.evalN + 1 ∧ (normalStep s).evalM = s.evalM ∧
      (normalStep s).spriteOverflow = s.spriteOverflow :=
  ⟨rfl, rfl, rfl⟩

/-- R205, R206: an entry in range is copied to the next free slot. -/
theorem normalStep_of_inRange (h : entryInRange s = true) (hf : s.evalFound < 8) :
    (normalStep s).evalFound = s.evalFound + 1 ∧
      ((normalStep s).evalSprite0 = true ↔ s.evalSprite0 = true ∨ s.evalN = 0) ∧
      ∀ j < 32, secRead j (normalStep s) =
        if j / 4 = s.evalFound then oamByte s.evalN (j % 4) s else secRead j s := by
  have hsec : (normalStep s).secOam = (copySprite s.evalN s.evalFound s).secOam := if_pos h
  refine ⟨if_pos h, by simp [normalStep, h], fun j hj => ?_⟩
  rw [secRead_congr hsec, secRead_copySprite hf hj]

/-- R205: an entry out of range is passed over. -/
theorem normalStep_of_outOfRange (h : ¬ entryInRange s = true) :
    (normalStep s).evalFound = s.evalFound ∧ (normalStep s).evalSprite0 = s.evalSprite0 ∧
      (normalStep s).secOam = s.secOam :=
  ⟨if_neg h, by simp [normalStep, h], if_neg h⟩

/-- R208, R209: a buggy step tests the byte at the rotating offset and moves on to the next entry and offset. -/
theorem buggyStep_fields (s : State) :
    ((buggyStep s).evalN = s.evalN + 1 ∧ (buggyStep s).evalM = s.evalM + 1#2 ∧
      (buggyStep s).evalFound = s.evalFound ∧ (buggyStep s).evalSprite0 = s.evalSprite0) ∧
      (buggyStep s).secOam = s.secOam ∧
      ((buggyStep s).spriteOverflow = true ↔ s.spriteOverflow = true ∨
        inRange s.scanline (oamByte s.evalN s.evalM.toNat s) (currentHeight s) = true) :=
  ⟨⟨rfl, rfl, rfl, rfl⟩, rfl, Bool.or_eq_true_iff⟩

/-- R210: the end of evaluation hands the number found and the sprite-0 slot to the next buffer. -/
theorem finalizeEvaluation_next (s : State) :
    (finalizeEvaluation s).next.count = s.evalFound ∧ (finalizeEvaluation s).next.slots = s.next.slots ∧
      (finalizeEvaluation s).next.sprite0Slot = if s.evalSprite0 then some 0 else none :=
  ⟨rfl, rfl, rfl⟩

/-! The evaluation state before and after the evaluation work of a TICK. -/

/-- The evaluation state of `t` is that of `s` (R28, R49, R50). -/
def SameEvaluation (s t : State) : Prop :=
  (t.evalN = s.evalN ∧ t.evalM = s.evalM ∧ t.evalFound = s.evalFound ∧ t.evalSprite0 = s.evalSprite0) ∧
    t.secOam = s.secOam ∧ t.spriteOverflow = s.spriteOverflow

/-- The state the evaluation work of a TICK starts from (R150, R200). -/
def evaluationStart (s : State) : State := beforeEvaluation (beforeRender s)

/-- On a visible line the sprite step ends with the evaluation work and the work on the buffers (R200). -/
theorem spriteDot_of_visible (hline : s.scanline ≤ 239) :
    spriteDot s = spriteBufferDot (evaluationDot (oamAddressDot s)) := by
  have hvisible : visible (oamAddressDot s).scanline = true := by
    rw [oamAddressDot_frame]
    exact decide_eq_true hline
  rw [spriteDot, if_pos hvisible]

theorem tickState_of_visible (hactive : activeLine (tickState s) = true) (hline : (tickState s).scanline ≤ 239) :
    tickState s = { spriteBufferDot (evaluationDot (evaluationStart s)) with
      result := .bit (spriteBufferDot (evaluationDot (evaluationStart s))).oddFrame } := by
  have hvisible : (backgroundDot (beforeRender s)).scanline ≤ 239 := by
    rw [backgroundDot_frame]
    simpa using hline
  rw [tickState_of_active hactive, spriteDot_of_visible hvisible, evaluationStart, beforeEvaluation]

theorem evaluationStart_position (s : State) :
    (evaluationStart s).scanline = (tickState s).scanline ∧ (evaluationStart s).dot = (tickState s).dot := by
  simp [evaluationStart]

/-- Nothing in a TICK writes the evaluation state before its evaluation work, but for the exit from VBlank (R157). -/
theorem evaluationStart_sameEvaluation (hdot : (tickState s).dot ≠ 340) : SameEvaluation s (evaluationStart s) := by
  have hoverflow : (beforeRender s).spriteOverflow = s.spriteOverflow := by
    have hbefore : (beforeRender s).spriteOverflow = (vblankTransitions (advanceTiming s)).spriteOverflow := by
      rw [beforeRender, composeDot_frame]
    obtain ⟨-, h⟩ | ⟨-, hexit, -⟩ := vblankTransitions_advanceTiming_spriteFlags s
    · exact hbefore.trans h
    · exact absurd hexit hdot
  simp [SameEvaluation, evaluationStart, hoverflow]

/-- R224: away from dot 257 the evaluation work sees OAM as the TICK found it. -/
theorem evaluationStart_oam (hdot : (tickState s).dot ≠ 257) : (evaluationStart s).oam = s.oam := by
  obtain ⟨-, hd, -, -, hoam⟩ := beforeSprites_kept s
  have hkept : (oamAddressDot (beforeSprites s)).oam = (beforeSprites s).oam :=
    oamAddressDot_oam (by omega)
  exact hkept.trans hoam

theorem evaluationStart_ctrl (s : State) : (evaluationStart s).ctrl = s.ctrl := by
  rw [evaluationStart, beforeEvaluation_frame, backgroundDot_frame, beforeRender_frame]

/-- The work on the buffers leaves the evaluation state (R200). -/
theorem tickState_sameEvaluation (hactive : activeLine (tickState s) = true)
    (hline : (tickState s).scanline ≤ 239) : SameEvaluation (evaluationDot (evaluationStart s)) (tickState s) := by
  rw [SameEvaluation, tickState_of_visible hactive hline]
  dsimp only
  exact (spriteBufferDot_work _).evaluation_eq

/-! The clear, the start and the end (R201, R202, R210). -/

/-- Settles O40: the clear of the dot reached writes one byte of secondary OAM on odd dots. -/
theorem secondaryOamClear : Obligations.SecondaryOamClear := by
  intro s
  refine ⟨tickState s, rfl, fun ⟨hactive, hline, hlo, hhi⟩ j hj => ?_⟩
  obtain ⟨-, hsec, -⟩ := tickState_sameEvaluation hactive hline
  obtain ⟨-, hstart, -⟩ := evaluationStart_sameEvaluation (s := s) (by omega)
  obtain ⟨-, hdot⟩ := evaluationStart_position s
  rw [secRead_congr hsec, evaluationDot_of_clear (by omega) (by omega), hdot]
  by_cases hodd : (tickState s).dot % 2 = 1
  · rw [if_pos hodd, secRead_secWrite (by omega) hj, secRead_congr hstart]
    simp only [hodd, true_and]
    rfl
  · rw [if_neg hodd, if_neg (fun h => hodd h.1), secRead_congr hstart]

/-- R217, R219: the work on the buffers leaves the next buffer up to the end of evaluation. -/
theorem tickState_next_of_evaluation (hactive : activeLine (tickState s) = true) (hline : (tickState s).scanline ≤ 239)
    (hdot : (tickState s).dot ≤ 256) : (tickState s).next = (evaluationDot (evaluationStart s)).next := by
  have hd : (evaluationDot (evaluationStart s)).dot = (tickState s).dot :=
    (evaluationDot_work _).dot_eq.trans (evaluationStart_position s).2
  rw [tickState_of_visible hactive hline]
  dsimp only
  exact (spriteBufferDot_work _).next_eq (by omega)

/-- Settles O41: dot 0 resets the evaluation state, and dot 256 writes the head of the next buffer. -/
theorem evaluationStartsAndEnds : Obligations.EvaluationStartsAndEnds := by
  intro s
  refine ⟨tickState s, rfl, fun ⟨hactive, hline⟩ => ⟨fun hdot => ?_, fun hdot => ?_⟩⟩
  · obtain ⟨hcounters, -⟩ := tickState_sameEvaluation hactive hline
    rwa [evaluationDot_of_start ((evaluationStart_position s).2.trans hdot)] at hcounters
  · obtain ⟨⟨-, -, hfound, hsprite0⟩, -⟩ := evaluationStart_sameEvaluation (s := s) (by omega)
    have hnext : (evaluationStart s).next = s.next := by simp [evaluationStart]
    rw [tickState_next_of_evaluation hactive hline hdot.le,
      evaluationDot_of_finish ((evaluationStart_position s).2.trans hdot), ← hfound, ← hsprite0, ← hnext]
    exact finalizeEvaluation_next _

/-! The evaluation steps (R203 to R209). -/

/-- R203: the TICK reaches a dot of an evaluation step. -/
def StepsEvaluation (s : State) : Prop :=
  activeLine (tickState s) = true ∧ (tickState s).scanline ≤ 239 ∧ 65 ≤ (tickState s).dot ∧
    (tickState s).dot ≤ 255 ∧ (tickState s).dot % 2 = 1

theorem StepsEvaluation.sameEvaluation (h : StepsEvaluation s) :
    SameEvaluation s (evaluationStart s) ∧ SameEvaluation (evaluationStep (evaluationStart s)) (tickState s) := by
  obtain ⟨hactive, hline, hlo, hhi, hodd⟩ := h
  obtain ⟨-, hdot⟩ := evaluationStart_position s
  have hsame := tickState_sameEvaluation hactive hline
  rw [← hdot] at hlo hhi hodd
  rw [evaluationDot_of_step hlo hhi hodd] at hsame
  exact ⟨evaluationStart_sameEvaluation (by omega), hsame⟩

theorem StepsEvaluation.oamByte_eq (h : StepsEvaluation s) (n k : Nat) :
    oamByte n k (evaluationStart s) = oamRead (BitVec.ofNat 8 (4 * n + k)) s := by
  obtain ⟨-, -, -, hhi, -⟩ := h
  rw [oamByte, oamRead, evaluationStart_oam (by omega), oamRead]

/-- R204: the range test of a step is against the line reached, at the height CTRL selects. -/
theorem StepsEvaluation.inRange_iff (h : StepsEvaluation s) (n k : Nat) :
    inRange (evaluationStart s).scanline (oamByte n k (evaluationStart s)) (currentHeight (evaluationStart s)) = true ↔
      (oamRead (BitVec.ofNat 8 (4 * n + k)) s).toNat ≤ (tickState s).scanline ∧
        (tickState s).scanline < (oamRead (BitVec.ofNat 8 (4 * n + k)) s).toNat + spriteHeight s.ctrl := by
  rw [Machine.inRange_iff, h.oamByte_eq, currentHeight, evaluationStart_ctrl, (evaluationStart_position s).1]

/-- Settles O42: a normal step copies an entry in range and passes over any other. -/
theorem normalEvaluationStep : Obligations.NormalEvaluationStep := by
  rintro s y hn hf rfl
  refine ⟨tickState s, rfl, fun hdots => ?_⟩
  have hsteps : StepsEvaluation s := hdots
  obtain ⟨⟨⟨hn₀, hm₀, hf₀, hzero₀⟩, hsec₀, hover₀⟩, ⟨hn₁, hm₁, hf₁, hzero₁⟩, hsec₁, hover₁⟩ := hsteps.sameEvaluation
  have hrange : entryInRange (evaluationStart s) = true ↔ _ := hsteps.inRange_iff (evaluationStart s).evalN 0
  rw [evaluationStep_of_normal (by omega) (by omega)] at hn₁ hm₁ hf₁ hzero₁ hsec₁ hover₁
  obtain ⟨hnext, hm, hover⟩ := normalStep_always (evaluationStart s)
  rw [hn₀] at hrange hnext
  refine ⟨hn₁.trans hnext, hm₁.trans (hm.trans hm₀), hover₁.trans (hover.trans hover₀), fun hin => ?_, fun hout => ?_⟩
  · obtain ⟨hfound, hzero, hcopy⟩ := normalStep_of_inRange (hrange.2 hin) (by omega)
    rw [hf₀] at hfound hcopy
    rw [hn₀, hzero₀] at hzero
    refine ⟨hf₁.trans hfound, by rw [hzero₁, hzero], fun k hk => ?_, fun j hj hslot => ?_⟩
    · rw [secRead_congr hsec₁, hcopy _ (by omega), if_pos (by omega), hsteps.oamByte_eq, hn₀, Nat.mul_add_mod,
        Nat.mod_eq_of_lt hk]
    · rw [secRead_congr hsec₁, hcopy _ hj, if_neg hslot, secRead_congr hsec₀]
  · obtain ⟨hfound, hzero, hsec⟩ := normalStep_of_outOfRange (hrange.not.2 hout)
    exact ⟨hf₁.trans (hfound.trans hf₀), hzero₁.trans (hzero.trans hzero₀),
      fun j _ => secRead_congr (hsec₁.trans (hsec.trans hsec₀)) j⟩

/-- Settles O43: a buggy step tests one byte of the entry, and writes only the counters and the overflow flag. -/
theorem buggyEvaluationStep : Obligations.BuggyEvaluationStep := by
  rintro s y hn hf rfl
  refine ⟨tickState s, rfl, fun hdots => ?_⟩
  have hsteps : StepsEvaluation s := hdots
  obtain ⟨⟨⟨hn₀, hm₀, hf₀, hzero₀⟩, hsec₀, hover₀⟩, ⟨hn₁, hm₁, hf₁, hzero₁⟩, hsec₁, hover₁⟩ := hsteps.sameEvaluation
  rw [evaluationStep_of_buggy (by omega) (by omega)] at hn₁ hm₁ hf₁ hzero₁ hsec₁ hover₁
  obtain ⟨⟨hnext, hm, hfound, hzero⟩, hsec, hover⟩ := buggyStep_fields (evaluationStart s)
  rw [hsteps.inRange_iff, hn₀, hm₀, hover₀] at hover
  refine ⟨by rw [hn₁, hnext, hn₀], ?_, by rw [hf₁, hfound, hf₀, hf], hzero₁.trans (hzero.trans hzero₀),
    hsec₁.trans (hsec.trans hsec₀), ?_⟩
  · rw [hm₁, hm, hm₀, BitVec.toNat_add]
    rfl
  · rw [hover₁, hover]
    rfl

end Sys2Proof.Machine
end

section
/-! PROOFS. The sprite fetch and the exchange of the buffers in a TICK (R211 to R219), and the two statements they settle. -/

namespace Sys2Proof.Machine

variable {s : State}

/-! The sub-steps of a slot's fetch (R211). -/

/-- A slot's fetch writes each latch at its own sub-step, and the next buffer at the last (R211). -/
theorem spriteFetchStep_kept (i k : Nat) (s : State) :
    (k ≠ 4 → (spriteFetchStep i k s).spLoLatch = s.spLoLatch) ∧
      (k ≠ 6 → (spriteFetchStep i k s).spHiLatch = s.spHiLatch) ∧
      (k ≠ 7 → (spriteFetchStep i k s).next = s.next) := by
  unfold spriteFetchStep
  split <;> simp [dummyNametableRead_eq, fetchSpriteLow, fetchSpriteHigh, loadSlot, memRead_eq]

theorem spriteFetchStep_lowPlane (i : Nat) (s : State) :
    (spriteFetchStep i 4 s).spLoLatch = busByte (spriteRowAddr i s) s ∧
      (spriteFetchStep i 4 s).events = readEvents (spriteRowAddr i s) s := by
  rw [spriteFetchStep, fetchSpriteLow, memRead_eq]
  exact ⟨rfl, rfl⟩

theorem spriteFetchStep_highPlane (i : Nat) (s : State) :
    (spriteFetchStep i 6 s).spHiLatch = busByte (highPlane (spriteRowAddr i s)) s ∧
      (spriteFetchStep i 6 s).events = readEvents (highPlane (spriteRowAddr i s)) s := by
  rw [spriteFetchStep, fetchSpriteHigh, memRead_eq]
  exact ⟨rfl, rfl⟩

theorem spriteFetchStep_loadSlot (i : Nat) (s : State) :
    (spriteFetchStep i 7 s).next = setSlot s.next i (slotContents i s) := rfl

/-- Setting a slot leaves the head of the buffer and the other slots. -/
theorem setSlot_slots (b : SpriteBuffer) (i j : Fin 8) (sl : SpriteSlot) :
    (setSlot b i sl).slots[j] = if j = i then sl else b.slots[j] := by
  have hbound : j.val < 8 := j.isLt
  simp only [setSlot, Fin.getElem_fin, Vector.getElem_setIfInBounds, Fin.ext_iff, eq_comm]

/-- R216, R217: what a slot beyond the count, an unflipped and a flipped sprite are loaded with. -/
theorem slotContents_planes (i : Nat) (s : State) :
    (s.next.count ≤ i → (slotContents i s).patLo = 0 ∧ (slotContents i s).patHi = 0) ∧
      (i < s.next.count → (secRead (4 * i + 2) s).getLsbD 6 = false →
        (slotContents i s).patLo = s.spLoLatch ∧ (slotContents i s).patHi = s.spHiLatch) ∧
      (i < s.next.count → (secRead (4 * i + 2) s).getLsbD 6 = true →
        (slotContents i s).patLo = rev8 s.spLoLatch ∧ (slotContents i s).patHi = rev8 s.spHiLatch) := by
  unfold slotContents slotPlane flipsHorizontally
  refine ⟨fun hempty => ?_, fun hused hflip => ?_, fun hused hflip => ?_⟩
  · simp only [hempty.not_gt, decide_false, Bool.false_eq_true, if_false]
    exact ⟨rfl, rfl⟩
  · simp only [hused, decide_true, hflip, Bool.false_eq_true, if_true, if_false, and_self]
  · simp only [hused, decide_true, hflip, if_true, and_self]

/-! The sprite fetch of a TICK. -/

/-- What a slot's fetch reads is as the TICK found it: the sprites, the line, CTRL and the latches (R150). -/
theorem evaluationStart_slot (i : Nat) (hdot : (tickState s).dot ≠ 0) :
    spriteRowAddr i (evaluationStart s) = spriteRowAddr i s ∧ slotContents i (evaluationStart s) = slotContents i s := by
  have hline := (advanceTiming_work s).scanline_eq (tickState_dot s ▸ hdot)
  rw [evaluationStart, beforeEvaluation_frame, backgroundDot_frame, beforeRender_frame, hline]
  exact ⟨rfl, rfl⟩

theorem evaluationStart_kept (s : State) :
    (evaluationStart s).spLoLatch = s.spLoLatch ∧ (evaluationStart s).spHiLatch = s.spHiLatch ∧
      (evaluationStart s).next = s.next ∧ (evaluationStart s).chrFallback = s.chrFallback ∧
      (evaluationStart s).params = s.params := by
  rw [evaluationStart, beforeEvaluation_frame, backgroundDot_frame, beforeRender_frame]
  exact ⟨rfl, rfl, rfl, rfl, rfl⟩

/-- On the dots of the sprite fetches a TICK ends with one sub-step of a slot's fetch (R211). -/
theorem tickState_of_slot {i k : Nat} (hactive : activeLine (tickState s) = true)
    (hline : (tickState s).scanline ≤ 239) (hdot : (tickState s).dot = 257 + 8 * i + k) (hi : i < 8) (hk : k < 8) :
    (tickState s).spLoLatch = (spriteFetchStep i k (evaluationStart s)).spLoLatch ∧
      (tickState s).spHiLatch = (spriteFetchStep i k (evaluationStart s)).spHiLatch ∧
      (tickState s).next = (spriteFetchStep i k (evaluationStart s)).next ∧
      (tickState s).events = (spriteFetchStep i k (evaluationStart s)).events := by
  have hd : (evaluationStart s).dot = 257 + 8 * i + k := (evaluationStart_position s).2.trans hdot
  have hslot : (257 + 8 * i + k - 257) / 8 = i := by omega
  have hstep : (257 + 8 * i + k - 257) % 8 = k := by omega
  rw [tickState_of_visible hactive hline, evaluationDot_of_late (by omega), spriteBufferDot, if_pos (by omega),
    spriteFetchDot, hd, hslot, hstep]
  exact ⟨rfl, rfl, rfl, rfl⟩

/-- R70, R71: a pattern byte comes from the fallback buffer, or is the answer of the newest call. -/
theorem busByte_evaluationStart {a : BusAddr} (hlow : a ≤ 0x1FFF#14) :
    (s.params.mapperAttached = false → busByte a (evaluationStart s) = s.chrFallback.read a.toNat) ∧
      (s.params.mapperAttached = true → (readEvents a (evaluationStart s)).head? =
        some (.readChr a (busByte a (evaluationStart s)))) := by
  obtain ⟨-, -, -, hchr, hparams⟩ := evaluationStart_kept s
  refine ⟨fun hmapper => ?_, fun hmapper => readEvents_head_of_pattern hlow (by rwa [hparams])⟩
  rw [busByte_of_fallback hlow (by rwa [hparams]), hchr]

/-- Settles O44: each clause is the slot's sub-step of the dot reached. -/
theorem spriteFetchSlots : Obligations.SpriteFetchSlots := by
  intro s i k
  refine ⟨tickState s, rfl, fun ⟨hactive, hline, hdot, hk⟩ => ?_⟩
  obtain ⟨hlo, hhi, hnext, hevents⟩ := tickState_of_slot hactive hline hdot i.isLt hk
  obtain ⟨haddr, hcontents⟩ := evaluationStart_slot (s := s) i.val (by omega)
  obtain ⟨hlo₀, hhi₀, hnext₀, -, -⟩ := evaluationStart_kept s
  obtain ⟨hkeepLo, hkeepHi, hkeepNext⟩ := spriteFetchStep_kept i.val k (evaluationStart s)
  obtain ⟨hbyteLo, hcallLo⟩ := busByte_evaluationStart (s := s) (spriteRowAddr_low i.val s)
  obtain ⟨hbyteHi, hcallHi⟩ := busByte_evaluationStart (s := s) (highPlane_low (spriteRowAddr_low i.val s))
  refine ⟨?_, ?_, ?_, ?_, fun hne => hlo.trans ((hkeepLo hne).trans hlo₀), fun hne => hhi.trans ((hkeepHi hne).trans hhi₀),
    fun hne => hnext.trans ((hkeepNext hne).trans hnext₀), ?_⟩
  · rintro rfl hmapper
    rw [hlo, (spriteFetchStep_lowPlane _ _).1, haddr, hbyteLo hmapper]
  · rintro rfl hmapper
    rw [hhi, (spriteFetchStep_highPlane _ _).1, haddr, hbyteHi hmapper]
    rfl
  · rintro rfl hmapper
    rw [hlo, hevents, (spriteFetchStep_lowPlane _ _).1, (spriteFetchStep_lowPlane _ _).2, haddr]
    exact hcallLo hmapper
  · rintro rfl hmapper
    rw [hhi, hevents, (spriteFetchStep_highPlane _ _).1, (spriteFetchStep_highPlane _ _).2, haddr]
    exact hcallHi hmapper
  · rintro rfl
    rw [spriteFetchStep_loadSlot, hcontents, hnext₀] at hnext
    have hslot (j : Fin 8) : (tickState s).next.slots[j] = if j = i then slotContents i.val s else s.next.slots[j] := by
      rw [hnext]
      exact setSlot_slots _ _ _ _
    rw [hslot i, if_pos rfl]
    exact ⟨by rw [hnext]; rfl, by rw [hnext]; rfl, fun j hj => by rw [hslot j, if_neg hj], rfl, rfl,
      slotContents_planes i.val s⟩

/-! The exchange of the buffers (R219). -/

theorem spriteBufferDot_of_swap (hdot : s.dot = 321) : spriteBufferDot s = swapBuffers s := by
  rw [spriteBufferDot, if_neg (by omega), if_pos hdot]

theorem EvaluationWork.cur_eq {t : State} (h : EvaluationWork s t) : t.cur = s.cur := by cases h <;> rfl

/-- R219: only the swap writes the buffer being displayed. -/
theorem SpriteBufferWork.cur_eq {t : State} (h : SpriteBufferWork s t) (hdot : s.dot ≠ 321) : t.cur = s.cur := by
  cases h with
  | swap hswap => exact absurd hswap hdot
  | fetchLow => rw [fetchSpriteLow, memRead_eq]
  | fetchHigh => rw [fetchSpriteHigh, memRead_eq]
  | dummyRead => rw [dummyNametableRead_eq]
  | load | idle => rfl

theorem beforeEvaluation_cur (s : State) : (beforeEvaluation s).cur = s.cur := by
  rw [beforeEvaluation_frame, backgroundDot_frame]

theorem RenderWork.cur_eq {t : State} (h : RenderWork s t)
    (hdot : ¬ (activeLine s = true ∧ s.scanline ≤ 239 ∧ s.dot = 321)) : t.cur = s.cur := by
  cases h with
  | off => rfl
  | preRenderLine => exact beforeEvaluation_cur s
  | visibleLine e _ hactive hline heval hbuffer =>
    have hd : e.dot = s.dot := heval.dot_eq.trans (beforeEvaluation_dot s)
    have he : e.cur = s.cur := heval.cur_eq.trans (beforeEvaluation_cur s)
    exact (hbuffer.cur_eq fun hswap => hdot ⟨hactive, hline, hd.symm.trans hswap⟩).trans he

theorem beforeRender_cur (s : State) : (beforeRender s).cur = s.cur := by rw [beforeRender_frame]

theorem tickState_cur (hdot : ¬ (activeLine (tickState s) = true ∧ (tickState s).scanline ≤ 239 ∧
    (tickState s).dot = 321)) : (tickState s).cur = s.cur := by
  rw [activeLine_tickState, tickState_scanline, tickState_dot, ← beforeRender_scanline, ← beforeRender_dot] at hdot
  exact ((renderDot_work (beforeRender s)).cur_eq hdot).trans (beforeRender_cur s)

theorem tickState_of_swap (hactive : activeLine (tickState s) = true) (hline : (tickState s).scanline ≤ 239)
    (hdot : (tickState s).dot = 321) : (tickState s).cur = s.next ∧ (tickState s).next = s.cur := by
  have hd : (evaluationStart s).dot = 321 := (evaluationStart_position s).2.trans hdot
  obtain ⟨-, -, hnext, -, -⟩ := evaluationStart_kept s
  have hcur : (evaluationStart s).cur = s.cur := (beforeEvaluation_cur _).trans (beforeRender_cur s)
  rw [tickState_of_visible hactive hline, evaluationDot_of_late (by omega), spriteBufferDot_of_swap hd]
  simp only [swapBuffers_cur, swapBuffers_next, hnext, hcur, and_self]

/-- Settles O47: the swap of dot 321 takes the buffers as the TICK found them, and nothing else writes `cur`. -/
theorem bufferSwap : Obligations.BufferSwap := by
  intro s
  exact ⟨tickState s, rfl, fun ⟨hactive, hline, hdot⟩ => tickState_of_swap hactive hline hdot, tickState_cur⟩

end Sys2Proof.Machine
end

section
/-! PROOFS. The compositor (44_compositor.md): the pixel a TICK composes and what it writes, the fields it does not read, and
the invariant of the picture. -/

namespace Sys2Proof.Machine

variable {s t : State}

/-! What the compositor writes (R240, R244, R252). -/

/-- The compositor on a visible dot: the hit flag, one entry of the image and one call of the sink. -/
theorem composePixel_eq (s : State) :
    composePixel s = { s with
      sprite0Hit := s.sprite0Hit || (renderingEnabled s && sprite0Hits (s.dot - 1) s)
      fb := putCell s.fb (256 * s.scanline + (s.dot - 1)) (pixelRgb (s.dot - 1) s)
      events := .setPixel (s.dot - 1) s.scanline (pixelRgb (s.dot - 1) s) :: s.events } := by
  unfold composePixel updateSprite0Hit
  dsimp only
  split <;> simp [setPixel, record, *]

theorem composeDot_of_pixel (hdot : s.scanline ≤ 239 ∧ 1 ≤ s.dot ∧ s.dot ≤ 256) : composeDot s = composePixel s := by
  rw [composeDot, if_pos (by simpa [visible] using hdot)]

/-- R251, R252: within the 256 columns of a row no two pixels share an entry of the image. -/
theorem pixelAt_composeDot_other {x y : Nat} (hx : x < 256)
    (hother : ¬ (s.scanline ≤ 239 ∧ 1 ≤ s.dot ∧ s.dot ≤ 256 ∧ x = s.dot - 1 ∧ y = s.scanline)) :
    pixelAt x y (composeDot s) = pixelAt x y s := by
  by_cases hdot : s.scanline ≤ 239 ∧ 1 ≤ s.dot ∧ s.dot ≤ 256
  · rw [composeDot_of_pixel hdot, composePixel_eq]
    exact (cellAt_putCell _ _ _ _).trans (if_neg (by omega))
  · rw [composeDot_of_no_pixel _ hdot]

/-- R251, R252: a TICK keeps every entry of the image but that of the visible dot it reaches. -/
theorem pixelAt_tickState_other {x y : Nat} (hx : x < 256)
    (hother : ¬ ((tickState s).scanline ≤ 239 ∧ 1 ≤ (tickState s).dot ∧ (tickState s).dot ≤ 256 ∧
      x = (tickState s).dot - 1 ∧ y = (tickState s).scanline)) : pixelAt x y (tickState s) = pixelAt x y s := by
  obtain ⟨hline, hd, -⟩ := vblankTransitions_advanceTiming_kept s
  rw [← hline, ← hd] at hother
  have hfb : (vblankTransitions (advanceTiming s)).fb = s.fb := by rw [vblankTransitions_frame, advanceTiming_frame]
  rw [pixelAt, tickState_fb]
  exact (pixelAt_composeDot_other hx hother).trans (congrArg (cellAt · _) hfb)

/-! The calls of the rendering step. -/

/-- R71, R73: a read calls the mapper, not the sink. -/
theorem readEvents_eq_append (a : BusAddr) (s : State) :
    ∃ calls, readEvents a s = calls ++ s.events ∧ ∀ x y c, Event.setPixel x y c ∉ calls := by
  unfold readEvents
  rw [← placementCalls_append]
  split
  · exact ⟨.readChr a (busByte a s) :: placementCalls a s, rfl, by simp [placementCalls]⟩
  · exact ⟨placementCalls a s, rfl, by simp [placementCalls]⟩

theorem BusWork.events_eq_append {access : Option BusAddr} (h : BusWork access s t) :
    ∃ calls, t.events = calls ++ s.events ∧ ∀ x y c, Event.setPixel x y c ∉ calls := by
  obtain ⟨-, hevents⟩ := h
  rw [hevents]
  cases access with
  | none => exact ⟨[], rfl, by simp⟩
  | some a => exact readEvents_eq_append a s

/-- Settles O30: the compositor's one call is the oldest of the TICK's, and the rendering step's calls go to the mapper. -/
theorem tickWritesOnePixel : Obligations.TickWritesOnePixel := by
  intro s
  obtain ⟨calls, hcalls, hnoPixel⟩ := (tickState_busWork s).events_eq_append
  refine ⟨tickState s, calls, rfl, hnoPixel, fun hline hlo hhi => ?_, fun hdot => ?_, fun x y hx => ?_⟩
  · obtain ⟨c, hpixel, hevents⟩ := beforeRender_call s ⟨hline, hlo, hhi⟩
    exact ⟨c, hpixel, hevents ▸ hcalls⟩
  · exact beforeRender_events_of_no_pixel s hdot ▸ hcalls
  · exact pixelAt_tickState_other hx

/-! The invariant of the picture (R251 to R253). -/

/-- The beam has passed column `x` of row `y` in this frame. -/
def BeamPassed (x y : Nat) (s : State) : Prop := y < s.scanline ∨ (y = s.scanline ∧ x < s.dot)

/-- R151: an advance passes the column of the dot it reaches; the end of a line passes no further column of the picture,
and a new frame starts with none passed. -/
theorem TimingWork.beamPassed {x y : Nat} (h : TimingWork s t) (hx : x < 256) (hpassed : BeamPassed x y t) :
    BeamPassed x y s ∨ (1 ≤ t.dot ∧ x = t.dot - 1 ∧ y = t.scanline) := by
  unfold BeamPassed at *
  cases h with
  | skip | nextFrame => exact absurd hpassed (by simp)
  | nextDot | nextLine =>
    dsimp only at hpassed ⊢
    omega

theorem tickState_rasterInv (h : RasterInv s) : RasterInv (tickState s) := by
  intro x y hx hy hpassed
  by_cases hreached : (tickState s).scanline ≤ 239 ∧ 1 ≤ (tickState s).dot ∧ (tickState s).dot ≤ 256 ∧
      x = (tickState s).dot - 1 ∧ y = (tickState s).scanline
  · obtain ⟨hline, hlo, hhi, rfl, rfl⟩ := hreached
    obtain ⟨c, hpixel, -⟩ := beforeRender_call s ⟨hline, hlo, hhi⟩
    exact hpixel ▸ Option.some_ne_none c
  · rw [pixelAt_tickState_other hx hreached]
    rw [tickState_scanline, tickState_dot] at hpassed hreached
    exact h x y hx hy (((advanceTiming_work s).beamPassed hx hpassed).resolve_right (by omega))

/-- R280: RESET returns the beam to `(0, 0)`, and every other transaction but TICK leaves the beam and the image. -/
theorem exec_rasterInv (i : Instr) (h : RasterInv s) : ∃ t, exec i s = .next t ∧ RasterInv t := by
  by_cases htick : i = .tick
  · subst htick
    exact ⟨_, rfl, tickState_rasterInv h⟩
  by_cases hreset : i = .reset
  · subst hreset
    refine ⟨_, rfl, fun x y _ _ hpassed => ?_⟩
    simp [resetState, State.reset] at hpassed
  · obtain ⟨t, ht, hframe⟩ := exec_registerFrame s i htick hreset
    refine ⟨t, ht, ?_⟩
    rw [hframe]
    exact h

/-- A step that answers a next state idles or applies one transaction (R9, R278). -/
theorem step_eq_next (h : step s = .next t) :
    t = s ∨ ∃ (i : Instr) (rest : List OpWord), exec i { s with issued := rest } = .next t := by
  match hissued : s.issued with
  | [] =>
    rw [step_of_issued_nil hissued] at h
    cases h
    exact .inl rfl
  | word :: rest =>
    match hword : decode word with
    | .ok i => exact .inr ⟨i, rest, (step_of_decode_ok hissued hword).symm.trans h⟩
    | .error why =>
      rw [step_of_decode_error hissued hword] at h
      cases h

/-- Settles O57: every transaction keeps the invariant, which does not speak of the issued words, and from line 240 on the beam
has passed the whole picture. -/
theorem stepKeepsRaster : Obligations.StepKeepsRaster := by
  refine ⟨fun s t hs hstep => ?_, fun s hs hline x y hx hy => hs x y hx hy (.inl (by omega))⟩
  obtain rfl | ⟨i, rest, hexec⟩ := step_eq_next hstep
  · exact hs
  · obtain ⟨u, hu, hinv⟩ := exec_rasterInv (s := { s with issued := rest }) i hs
    cases hu.symm.trans hexec
    exact hinv

/-! The background pixel (R188, R242). -/

/-- Two planes' bits side by side, as a number. -/
theorem toNat_ofBool_append (hi lo : Bool) : (BitVec.ofBool hi ++ BitVec.ofBool lo).toNat = 2 * hi.toNat + lo.toNat := by
  rw [toNat_append_eq_add, BitVec.toNat_ofBool, BitVec.toNat_ofBool, Nat.mul_comm, pow_one]

/-- R188: no carry leaves the five bits of a background pixel's palette index. -/
theorem backgroundIndex_toNat (pal p : BitVec 2) : (4#5 * pal.setWidth 5 + p.setWidth 5).toNat = 4 * pal.toNat + p.toNat := by
  simp only [BitVec.toNat_add, BitVec.toNat_mul, BitVec.toNat_setWidth, BitVec.toNat_ofNat]
  omega

theorem bgPixel_toNat (s : State) {b p pal : Nat} (hb : b = 15 - s.x.toNat)
    (hp : p = 2 * (s.bgPatHi.getLsbD b).toNat + (s.bgPatLo.getLsbD b).toNat)
    (hpal : pal = 2 * (s.bgAttrHi.getLsbD b).toNat + (s.bgAttrLo.getLsbD b).toNat) :
    (bgPixel s).toNat = if p = 0 then 0 else 4 * pal + p := by
  subst hb
  rw [← toNat_ofBool_append] at hp hpal
  rw [bgPixel, hp, hpal, ← backgroundIndex_toNat]
  simp only [← BitVec.toNat_inj, apply_ite BitVec.toNat]
  rfl

/-- Settles O27: hidden or clipped the pixel is 0, and elsewhere it is the background's. -/
theorem backgroundPixelValue : Obligations.BackgroundPixelValue := by
  intro s xp b p pal hb hp hpal
  have hpixel := bgPixel_toNat s hb hp hpal
  unfold bgPixelGated showBackground showLeftBackground
  by_cases hgate : s.mask.getLsbD 3 = false ∨ (xp < 8 ∧ s.mask.getLsbD 1 = false)
  · rw [if_pos (by simpa using hgate), if_pos (or_assoc.1 (.inl hgate))]
    rfl
  · rw [if_neg (by simpa using hgate), hpixel]
    simp only [← or_assoc, hgate, false_or]

/-! The pixel of a TICK within the picture (R240, R244 to R249). -/

theorem TimingWork.eq_of_picture (h : TimingWork s t) (hdot : s.dot ≤ 255) :
    t = { s with totalCycles := s.totalCycles + 1#64, dot := s.dot + 1 } := by
  cases h with
  | nextDot => rfl
  | skip hskip =>
    obtain ⟨-, h339⟩ := skipsDot_position hskip
    omega
  | nextLine _ h340 | nextFrame _ h340 => omega

theorem VBlankWork.eq_of_picture (h : VBlankWork s t) (hline : s.scanline ≤ 239) (hdot : s.dot ≤ 256) :
    t = { s with vblankStartDot := false } := by
  cases h with
  | none => rfl
  | enter h241 => omega
  | exit _ h340 => omega

/-- The state a TICK composes a pixel from: nothing but the dot, the count of dots and the race suppressor has moved
(R150). -/
theorem vblankTransitions_advanceTiming_of_picture (hline : s.scanline ≤ 239) (hdot : s.dot ≤ 255) :
    vblankTransitions (advanceTiming s) =
      { s with totalCycles := s.totalCycles + 1#64, dot := s.dot + 1, vblankStartDot := false } := by
  rw [(advanceTiming_work s).eq_of_picture hdot]
  exact (vblankTransitions_work _).eq_of_picture hline (Nat.succ_le_succ hdot)

/-- R240, R251: what a TICK within the picture has composed, from the state it found, when its rendering step begins. -/
theorem beforeRender_of_picture (hline : s.scanline ≤ 239) (hdot : s.dot ≤ 255) :
    (beforeRender s).fb = putCell s.fb (256 * s.scanline + s.dot) (pixelRgb s.dot s) ∧
      (beforeRender s).events = .setPixel s.dot s.scanline (pixelRgb s.dot s) :: s.events ∧
      (beforeRender s).sprite0Hit = (s.sprite0Hit || (renderingEnabled s && sprite0Hits s.dot s)) := by
  rw [beforeRender, vblankTransitions_advanceTiming_of_picture hline hdot,
    composeDot_of_pixel (by dsimp only; omega), composePixel_eq]
  exact ⟨rfl, rfl, rfl⟩

theorem pixelAt_tickState_of_picture (hline : s.scanline ≤ 239) (hdot : s.dot ≤ 255) :
    pixelAt s.dot s.scanline (tickState s) = some (pixelRgb s.dot s) := by
  obtain ⟨hfb, -, -⟩ := beforeRender_of_picture hline hdot
  rw [pixelAt, tickState_fb, ← beforeRender, hfb, cellAt_putCell, if_pos rfl]

theorem tickState_sprite0Hit_of_picture (hline : s.scanline ≤ 239) (hdot : s.dot ≤ 255) :
    (tickState s).sprite0Hit = (s.sprite0Hit || (renderingEnabled s && sprite0Hits s.dot s)) := by
  obtain ⟨-, -, hhit⟩ := beforeRender_of_picture hline hdot
  rw [tickState_sprite0Hit, ← beforeRender, hhit]

/-- R95: rendering is enabled by either of two MASK bits. -/
theorem renderingEnabled_iff (s : State) :
    renderingEnabled s = true ↔ s.mask.getLsbD 3 = true ∨ s.mask.getLsbD 4 = true := Bool.or_eq_true_iff

/-- R246 to R248: the colour of a pixel from its palette index. -/
theorem pixelRgb_eq (xp : Nat) (s : State) :
    pixelRgb xp s = emphasisTint (s.mask.extractLsb' 5 3) (Config.systemPalette
      (if s.mask.getLsbD 0 then palEntry (pixelIndex xp s) s &&& 0x30 else palEntry (pixelIndex xp s) s)) := rfl

/-- Settles O25: with rendering disabled the palette index is 0, the hit is not looked at, and the rendering step makes no
call. -/
theorem backdropPixel : Obligations.BackdropPixel := by
  intro s ci c hbg hsp hline hdot hci hc
  have hdisabled : ¬ renderingEnabled s = true := by
    rw [renderingEnabled_iff, hbg, hsp, or_self]
    exact Bool.false_ne_true
  have hinactive : activeLine (tickState s) = false :=
    activeLine_eq_false (.inl (by rw [tickState_mask]; exact ⟨hbg, hsp⟩))
  have hrgb : pixelRgb s.dot s = c := by
    rw [pixelRgb_eq, pixelIndex, if_neg hdisabled, hc, hci]
    rfl
  obtain ⟨-, hevents, -⟩ := beforeRender_of_picture hline hdot
  refine ⟨tickState s, rfl, ?_, ?_, ?_⟩
  · rw [pixelAt_tickState_of_picture hline hdot, hrgb]
  · rw [tickState_of_inactive hinactive, hevents, hrgb]
  · rw [tickState_sprite0Hit_of_picture hline hdot, Bool.eq_false_iff.2 hdisabled, Bool.false_and, Bool.or_false]

/-- R244: the pixel that hits comes from the slot marked as sprite 0's, over an opaque background. -/
theorem sprite0Hits_iff (xp : Nat) (s : State) :
    sprite0Hits xp s = true ↔ ∃ p k, spritePixelGated xp s = some p ∧ s.cur.sprite0Slot = some k ∧ k.val = p.slot ∧
      bgPixelGated xp s ≠ 0 := by
  unfold sprite0Hits
  split
  next p hp => simp [hp, ← and_assoc]
  next hnone => simp [hnone]

/-- R245: a sprite pixel in front, or over a transparent background, wins. -/
theorem priority_of_sprite {bg : BitVec 5} {p : SpritePixel} (h : p.fg = true ∨ bg = 0) :
    priority bg (some p) = p.index := if_pos (by simpa using h)

theorem priority_of_background {bg : BitVec 5} {p : SpritePixel} (hfg : p.fg = false) (hbg : bg ≠ 0) :
    priority bg (some p) = bg := if_neg (by simpa [hfg] using hbg)

/-- Settles O26: with rendering enabled the palette index is the one priority selects. -/
theorem composedPixel : Obligations.ComposedPixel := by
  rintro s bg sp hmask hline hdot rfl rfl
  have henabled := (renderingEnabled_iff s).2 hmask
  have hindex : pixelIndex s.dot s = priority (bgPixelGated s.dot s) (spritePixelGated s.dot s) := if_pos henabled
  refine ⟨tickState s, pixelIndex s.dot s, _, rfl, fun p hp hwins => ?_, fun p hp hfg hbg => ?_, fun hnone => ?_, rfl, ?_, ?_⟩
  · rw [hindex, hp, priority_of_sprite hwins]
  · rw [hindex, hp, priority_of_background hfg hbg]
  · rw [hindex, hnone, priority]
  · rw [pixelAt_tickState_of_picture hline hdot, pixelRgb_eq]
  · rw [tickState_sprite0Hit_of_picture hline hdot, henabled, Bool.true_and, Bool.or_eq_true, sprite0Hits_iff]

/-! The fields the compositor does not read (R241). -/

/-- `s` with the scroll address, the toggle, both OAMs and the evaluation state of `u`. -/
def withScrollAndOamOf (u s : State) : State :=
  { s with
    v := u.v, t := u.t, w := u.w, oam := u.oam, secOam := u.secOam
    evalN := u.evalN, evalFound := u.evalFound, evalM := u.evalM, evalSprite0 := u.evalSprite0 }

section
variable (u s : State)

theorem advanceTiming_withScrollAndOamOf :
    advanceTiming (withScrollAndOamOf u s) = withScrollAndOamOf u (advanceTiming s) := by
  unfold advanceTiming
  simp only [apply_ite (withScrollAndOamOf u)]
  rfl

theorem vblankTransitions_withScrollAndOamOf :
    vblankTransitions (withScrollAndOamOf u s) = withScrollAndOamOf u (vblankTransitions s) := by
  unfold vblankTransitions
  dsimp only
  by_cases hentry : s.scanline = 241 ∧ s.dot = 1
  · rw [if_pos hentry, if_pos (c := (withScrollAndOamOf u s).scanline = 241 ∧ (withScrollAndOamOf u s).dot = 1) hentry,
      apply_ite (withScrollAndOamOf u)]
    rfl
  · rw [if_neg hentry, if_neg (c := (withScrollAndOamOf u s).scanline = 241 ∧ (withScrollAndOamOf u s).dot = 1) hentry,
      apply_ite (withScrollAndOamOf u)]
    rfl

theorem composeDot_withScrollAndOamOf :
    composeDot (withScrollAndOamOf u s) = withScrollAndOamOf u (composeDot s) := by
  unfold composeDot
  rw [apply_ite (withScrollAndOamOf u), composePixel_eq, composePixel_eq]
  rfl

theorem beforeRender_withScrollAndOamOf :
    beforeRender (withScrollAndOamOf u s) = withScrollAndOamOf u (beforeRender s) := by
  rw [beforeRender, advanceTiming_withScrollAndOamOf, vblankTransitions_withScrollAndOamOf,
    composeDot_withScrollAndOamOf, beforeRender]

/-- The rendering step, which reads these fields, writes neither the image nor the hit flag. -/
theorem tickState_picture_withScrollAndOamOf :
    (tickState (withScrollAndOamOf u s)).fb = (tickState s).fb ∧
      (tickState (withScrollAndOamOf u s)).sprite0Hit = (tickState s).sprite0Hit := by
  rw [tickState_fb, tickState_fb, tickState_sprite0Hit, tickState_sprite0Hit, ← beforeRender, ← beforeRender,
    beforeRender_withScrollAndOamOf]
  exact ⟨rfl, rfl⟩

end

/-- Settles O31: the advance, the VBlank transitions and the pixel carry these fields along, and what a TICK does after them
writes neither the picture nor the hit flag. -/
theorem compositorIgnoresScrollAndOam : Obligations.CompositorIgnoresScrollAndOam := by
  intro s v t w oam secOam n f m z
  obtain ⟨hfb, hhit⟩ := tickState_picture_withScrollAndOamOf { s with
    v := v, t := t, w := w, oam := oam, secOam := secOam, evalN := n, evalFound := f, evalM := m, evalSprite0 := z } s
  exact ⟨_, _, rfl, rfl, hfb.symm, hhit.symm⟩

end Sys2Proof.Machine
end

section
/-! PROOFS. The writers of `nmiPending` (R264): what a TICK makes of it by the position reached, and that every register
transaction and POLL_FRAME keeps it. -/

namespace Sys2Proof.Machine

variable (s : State)

/-! The register transactions and POLL_FRAME. -/

@[simp] theorem memWrite_nmiPending (a : BusAddr) (b : Byte) : (memWrite a b s).nmiPending = s.nmiPending := by
  rw [memWrite_eq]

@[simp] theorem dataIncrement_nmiPending : (dataIncrement s).nmiPending = s.nmiPending := by
  rw [dataIncrement_frame]

@[simp] theorem readData_nmiPending : (readData s).2.nmiPending = s.nmiPending := by
  rw [readData_frame]

@[simp] theorem storeOamData_nmiPending (d : Byte) : (storeOamData d s).nmiPending = s.nmiPending := by
  unfold storeOamData
  split <;> rfl

@[simp] theorem writeScroll_nmiPending (d : Byte) : (writeScroll d s).nmiPending = s.nmiPending := by
  unfold writeScroll
  split <;> rfl

@[simp] theorem writeAddr_nmiPending (d : Byte) : (writeAddr d s).nmiPending = s.nmiPending := by
  unfold writeAddr
  simp only [busPlace_eq]
  split
  · split <;> rfl
  · rfl

theorem exec_keeps_nmiPending {i : Instr} (htick : i ≠ .tick) (hreset : i ≠ .reset) (hpoll : i ≠ .pollNmi) :
    ∃ t, exec i s = .next t ∧ t.nmiPending = s.nmiPending := by
  cases i with
  | tick => exact absurd rfl htick
  | reset => exact absurd rfl hreset
  | pollNmi => exact absurd rfl hpoll
  | oamDataW d => exact ⟨_, rfl, storeOamData_nmiPending s d⟩
  | scrollW d => exact ⟨_, rfl, writeScroll_nmiPending s d⟩
  | addrW d => exact ⟨_, rfl, writeAddr_nmiPending s d⟩
  | dataW d => exact ⟨_, rfl, (dataIncrement_nmiPending _).trans (memWrite_nmiPending s _ d)⟩
  | dataR => exact ⟨_, rfl, (dataIncrement_nmiPending _).trans (readData_nmiPending s)⟩
  | ctrlW | maskW | statusW | oamAddrW | ctrlR | maskR | statusR | oamAddrR | oamDataR | scrollR | addrR | pollFrame =>
    exact ⟨_, rfl, rfl⟩

/-! TICK. -/

/-- R155, R157: a TICK raises the flag, with NMI enabled, at VBlank entry, clears it at VBlank exit, and keeps it elsewhere. -/
theorem exec_tick_nmiPending_cases : ∃ t, exec .tick s = .next t ∧
    ((t.scanline = 241 ∧ t.dot = 1 ∧ t.nmiPending = (s.nmiPending || s.ctrl.getLsbD 7)) ∨
      (t.scanline = preRender s - 1 ∧ t.dot = 340 ∧ t.nmiPending = false) ∨ t.nmiPending = s.nmiPending) := by
  obtain ⟨t, ht, hentry, hexit, hkept⟩ := tickVBlankFlags s
  refine ⟨t, ht, ?_⟩
  by_cases hatEntry : t.scanline = 241 ∧ t.dot = 1
  · obtain ⟨-, -, -, -, hnmi, -⟩ := hentry hatEntry
    exact .inl ⟨hatEntry.1, hatEntry.2, hnmi⟩
  by_cases hatExit : t.scanline = preRender s - 1 ∧ t.dot = 340
  · obtain ⟨-, hnmi, -⟩ := hexit hatExit
    exact .inr (.inl ⟨hatExit.1, hatExit.2, hnmi⟩)
  obtain ⟨-, hnmi, -⟩ := hkept hatEntry hatExit
  exact .inr (.inr hnmi)

/-- Settles O51: RESET and POLL_NMI leave the flag cleared, a TICK changes it at VBlank entry and exit only, and every other
transaction keeps it. -/
theorem nmiRaisedOnlyAtVBlankEntry : Obligations.NmiRaisedOnlyAtVBlankEntry := by
  intro i s
  by_cases htick : i = .tick
  · obtain ⟨t, ht, hcases⟩ := exec_tick_nmiPending_cases s
    refine ⟨t, htick ▸ ht, fun hclear hraised => ?_, fun hset hcleared => ?_⟩
    · obtain ⟨hline, hdot, hnmi⟩ | ⟨-, -, hnmi⟩ | hnmi := hcases
      · rw [hclear, Bool.false_or, hraised] at hnmi
        exact ⟨htick, hline, hdot, hnmi.symm⟩
      · simp [hraised] at hnmi
      · simp [hclear, hraised] at hnmi
    · obtain ⟨-, -, hnmi⟩ | ⟨hline, hdot, -⟩ | hnmi := hcases
      · simp [hset, hcleared] at hnmi
      · exact .inr (.inr ⟨htick, hline, hdot⟩)
      · simp [hset, hcleared] at hnmi
  by_cases hreset : i = .reset
  · exact ⟨resetState s, hreset ▸ rfl, nofun, fun _ _ => .inr (.inl hreset)⟩
  by_cases hpoll : i = .pollNmi
  · exact ⟨{ s with nmiPending := false, result := .bit s.nmiPending }, hpoll ▸ rfl, nofun, fun _ _ => .inl hpoll⟩
  obtain ⟨t, ht, hnmi⟩ := exec_keeps_nmiPending s htick hreset hpoll
  refine ⟨t, ht, fun hclear hraised => ?_, fun hset hcleared => ?_⟩
  · simp [hclear, hraised] at hnmi
  · simp [hset, hcleared] at hnmi

end Sys2Proof.Machine
end

section
/-! PROOFS. RESET (R280) and the power-on state (R282): what the reset values read as, and the first TICK after them. -/

namespace Sys2Proof.Machine

/-! RESET. -/

@[simp] theorem SpriteBuffer.zero_slots_getElem (i : Fin 8) : SpriteBuffer.zero.slots[i] = ⟨0, 0, 0, 0⟩ :=
  Vector.getElem_replicate i.isLt

/-- Each memory RESET empties reads 0 at every address. -/
theorem resetState_memories_read (s : State) (a : Nat) :
    (resetState s).ntRam.read a = 0 ∧ (resetState s).palRam.read a = 0 ∧ (resetState s).oam.read a = 0 ∧
      (resetState s).secOam.read a = 0 :=
  ⟨Memory.read_nil a, Memory.read_nil a, Memory.read_nil a, Memory.read_nil a⟩

theorem resetState_slots_getElem (s : State) (i : Fin 8) :
    (resetState s).cur.slots[i] = ⟨0, 0, 0, 0⟩ ∧ (resetState s).next.slots[i] = ⟨0, 0, 0, 0⟩ :=
  ⟨SpriteBuffer.zero_slots_getElem i, SpriteBuffer.zero_slots_getElem i⟩

/-- Settles O19: the memories and the sprite slots are read through the lemmas above; every other field of `resetState` is
its reset value, or kept, by definition. -/
theorem resetResult : Obligations.ResetResult := by
  intro s
  refine ⟨resetState s, rfl, ?_, ?_, ?_, ?_, resetState_memories_read s, ?_, ?_, ?_, ?_, resetState_slots_getElem s, ?_, ?_⟩
  all_goals repeat' apply And.intro
  all_goals rfl

/-! Power-on. -/

/-- R282: power-on is RESET, so RESET finds nothing to change. -/
theorem resetState_reset : resetState State.reset = State.reset := rfl

/-- R52: no pixel has a value before its first write. -/
theorem pixelAt_reset (x y : Nat) : pixelAt x y State.reset = none := cellAt_nil _

/-- R151: away from the last dots of a line the beam moves one dot on, and no frame ends. -/
theorem tickState_beam_of_picture {s : State} (hdot : s.dot ≤ 255) :
    (tickState s).scanline = s.scanline ∧ (tickState s).dot = s.dot + 1 ∧ (tickState s).result = .bit s.oddFrame := by
  rw [tickState_scanline, tickState_dot, tickState_result, (advanceTiming_work s).eq_of_picture hdot]
  exact ⟨rfl, rfl, rfl⟩

/-- Settles O20: the beam of the reset state stands at `(0, 0)`, within the picture, so the first TICK goes one dot on and
composes that pixel. -/
theorem powerOnIsReset : Obligations.PowerOnIsReset := by
  obtain ⟨hline, hdot, hresult⟩ := tickState_beam_of_picture (s := State.reset) (Nat.zero_le _)
  have hpixel : pixelAt 0 0 (tickState State.reset) = some (pixelRgb 0 State.reset) :=
    pixelAt_tickState_of_picture (Nat.zero_le _) (Nat.zero_le _)
  refine ⟨congrArg _ resetState_reset, pixelAt_reset, tickState State.reset, rfl, hline, hdot, ?_, hresult⟩
  exact hpixel ▸ Option.some_ne_none _

end Sys2Proof.Machine
end
